-- ==== Sys2Proof/Word.lean ====
section
/-!
DEFINITION. The widths of the spec's quantities (00_scope.md R10): bytes, byte sequences and the unsigned
integers u16, u32 and the 64-bit words of the command port.
-/

namespace Sys2Proof

/-- A byte, 8 bits (R10). -/
abbrev Byte := BitVec 8

/-- A byte sequence; index 0 is the first byte (R12). -/
abbrev Bytes := List Byte

/-- `u16` (R10). -/
abbrev U16 := BitVec 16

/-- `u32` (R10); also a time in milliseconds (R280). -/
abbrev U32 := BitVec 32

/-- A header or response word of the host port (R90, R96). -/
abbrev Word := BitVec 64

end Sys2Proof
end

