-- ==== Sys2Proof/Config.lean ====
section
/-!
DEFINITION. The parameters of one CORE instance (00_scope.md R6), the reference configuration CFG-REF, and the
one free value of the model.
-/

namespace Sys2Proof

/-- The two ends of a link (R6, glossary). -/
inductive Role where
  | ground
  | aircraft
deriving DecidableEq, Repr

/-- The closed enumeration of packet types (R82). -/
inductive PacketType where
  | command
  | telemetry
  | heartbeat
  | emergency
deriving DecidableEq, Repr

/-- The parameters of R6, fixed for the life of an instance. Sizes are natural numbers, the other quantities
have the width R44 gives their register. The type bytes of R6 are fixed by R82 and are no field. -/
structure Config where
  /-- `PROTOCOL_VERSION` (R7) -/
  protocolVersion : Byte
  /-- `FRAME_SIZE`, bytes in one wire frame -/
  frameSize : Nat
  lenCommand : Nat
  lenTelemetry : Nat
  lenHeartbeat : Nat
  lenEmergency : Nat
  /-- `LINK_TIMEOUT_MS` -/
  linkTimeoutMs : U32
  /-- `LOSS_THRESHOLD` -/
  lossThreshold : U16
  /-- `UPDATE_RATE_HZ`; no rule depends on it (R282) -/
  updateRateHz : U16
  role : Role
  /-- `DEFAULT_FAILSAFE`, `LEN_COMMAND` bytes -/
  defaultFailsafe : Bytes
deriving DecidableEq, Repr

/-- CFG-REF, the last-but-one column of R6, in a given role. -/
def Config.ref (role : Role) : Config where
  protocolVersion := 0x01
  frameSize := 32
  lenCommand := 18
  lenTelemetry := 12
  lenHeartbeat := 0
  lenEmergency := 0
  linkTimeoutMs := 1000
  lossThreshold := 10
  updateRateHz := 50
  role := role
  defaultFailsafe := List.replicate 16 0x80 ++ [0x00, 0x00]

/-- DESIGN CHOICE (safe, log 5). The free value of U4 (93_implementation_defined.md): byte `index` of `RXBUF` after
the `draw`-th receive that failed. It has no body, so nothing can be proved of it. -/
opaque Config.rxbufAfterFail (draw index : Nat) : BitVec 8

end Sys2Proof
end

