-- ==== Sys2Proof/Syntax.lean ====
section
/-!
DEFINITION. The commands of the CORE: one constructor for each row of spec/opcode_table.json (30_encoding.md R99, R109),
and a command as the host presents it (R90).
-/

namespace Sys2Proof

/-- A command with its operands: `a` and `b` the operand bytes `A` and `B` (R92, R93), `t` the time `T` (R95), `d` the data
bytes `D` (R94), whose number is the field `N`. Operands that a command ignores (R102) are kept, so that a
command and its words carry the same information. A pseudo-command (R109) fixes `A`. -/
inductive Instr where
  | init (a b : Byte) (t : U32) (d : Bytes)
  | send (a b : Byte) (t : U32) (d : Bytes)
  | recv (a b : Byte) (t : U32) (d : Bytes)
  | update (a b : Byte) (t : U32) (d : Bytes)
  | setfs (a b : Byte) (t : U32) (d : Bytes)
  | getfs (a b : Byte) (t : U32) (d : Bytes)
  | rdreg (a b : Byte) (t : U32) (d : Bytes)
  | crc8 (a b : Byte) (t : U32) (d : Bytes)
  | encode (a b : Byte) (t : U32) (d : Bytes)
  | validate (a b : Byte) (t : U32) (d : Bytes)
  | decode (a b : Byte) (t : U32) (d : Bytes)
  | sendcmd (b : Byte) (t : U32) (d : Bytes)
  | recvtel (b : Byte) (t : U32) (d : Bytes)
  | recvcmd (b : Byte) (t : U32) (d : Bytes)
  | sendtel (b : Byte) (t : U32) (d : Bytes)
deriving DecidableEq, Repr

/-- A command as it stands at the host port: the header word `C` and the data channel (R90). -/
structure Command where
  header : Word
  data : Bytes
deriving DecidableEq, Repr

end Sys2Proof
end

