-- ==== Sys2Proof/WellFormed.lean ====
section
/-!
DEFINITION. Which commands have words, and which configurations are legal (the constraints after R9 of 00_scope.md).
-/

namespace Sys2Proof

/-- The data bytes of a command (R94). -/
def Instr.data : Instr → Bytes
  | .init _ _ _ d | .send _ _ _ d | .recv _ _ _ d | .update _ _ _ d | .setfs _ _ _ d | .getfs _ _ _ d
  | .rdreg _ _ _ d | .crc8 _ _ _ d | .encode _ _ _ d | .validate _ _ _ d | .decode _ _ _ d => d
  | .sendcmd _ _ d | .recvtel _ _ d | .recvcmd _ _ d | .sendtel _ _ d => d

/-- `N` is an 8-bit field: a command carries at most 255 data bytes (R91). -/
def Instr.dataFits (i : Instr) : Bool := decide (i.data.length ≤ 255)

/-- SEND and RECV of type 0x01 or 0x02 have the words of the pseudo-commands of R109, and those are the
names the decoder gives such words (DESIGN CHOICE, safe, log 7). Only the spelling is at stake: the meanings agree. -/
def Instr.named : Instr → Bool
  | .send a _ _ _ | .recv a _ _ _ => decide (a ≠ 0x01 ∧ a ≠ 0x02)
  | _ => true

/-- A well-formed command: it has words, and it is the name of its words. -/
def Instr.wellFormed (i : Instr) : Bool := i.dataFits && i.named

/-- The constraints between parameters (R6 and the paragraph after R9): `FRAME_SIZE` is 6..255, every `LEN_*` is at
most `MAX_PAYLOAD = FRAME_SIZE - 6`, `LOSS_THRESHOLD` and `UPDATE_RATE_HZ` are at least 1, and `DEFAULT_FAILSAFE` has
`LEN_COMMAND` bytes. The other ranges are those of the fields' widths. -/
abbrev Config.Legal (c : Config) : Prop :=
  6 ≤ c.frameSize ∧ c.frameSize ≤ 255 ∧
  c.lenCommand + 6 ≤ c.frameSize ∧ c.lenTelemetry + 6 ≤ c.frameSize ∧
  c.lenHeartbeat + 6 ≤ c.frameSize ∧ c.lenEmergency + 6 ≤ c.frameSize ∧
  1 ≤ c.lossThreshold.toNat ∧ 1 ≤ c.updateRateHz.toNat ∧
  c.defaultFailsafe.length = c.lenCommand

/-- Building a configuration with the check the spec asks of a model (after R9): an illegal one is not built. -/
def Config.build (c : Config) : Option Config := if c.Legal then some c else none

end Sys2Proof
end

