-- ==== Sys2Proof/Decode.lean ====
section
/-!
DEFINITION. From the words of a command to the command (30_encoding.md R90 to R110), rejecting by name, and the
encoder.
-/

namespace Sys2Proof

/-! ## Fields of the header word (R91) -/

def opField (c : Word) : Byte := c.extractLsb' 0 8
def aField (c : Word) : Byte := c.extractLsb' 8 8
def bField (c : Word) : Byte := c.extractLsb' 16 8
def nField (c : Word) : Byte := c.extractLsb' 24 8
def tField (c : Word) : U32 := c.extractLsb' 32 32

/-- The first `n` bytes of a channel. A channel that lists fewer bytes holds 0x00 in the others
(DESIGN CHOICE, safe, log 8): R90 and R286 promise exactly `n` bytes, and then nothing is added or dropped. -/
def channel : Nat → Bytes → Bytes
  | 0, _ => []
  | n + 1, [] => 0x00 :: channel n []
  | n + 1, x :: xs => x :: channel n xs

/-- Why a header is no command. -/
inductive DecodeError where
  /-- `OP` is not in the opcode map of R99: 0x00, 0x08 to 0x0F, 0x14 to 0xFF (R100). -/
  | illegalOpcode (op : Byte)
deriving DecidableEq, Repr

/-- SEND's words, under the most specific row of the opcode table (R99, R109; log 7). -/
def decodeSend (a b : Byte) (t : U32) (d : Bytes) : Instr :=
  if a = 0x01 then .sendcmd b t d
  else if a = 0x02 then .sendtel b t d
  else .send a b t d

/-- RECV's words, under the most specific row of the opcode table (R99, R109; log 7). -/
def decodeRecv (a b : Byte) (t : U32) (d : Bytes) : Instr :=
  if a = 0x01 then .recvcmd b t d
  else if a = 0x02 then .recvtel b t d
  else .recv a b t d

/-- The opcode map (R99): the match is on all 8 bits of `OP`; every other value is illegal (R100). -/
def decodeFields (op a b : Byte) (t : U32) (d : Bytes) : Except DecodeError Instr :=
  match op.toNat with
  | 0x01 => .ok (.init a b t d)
  | 0x02 => .ok (decodeSend a b t d)
  | 0x03 => .ok (decodeRecv a b t d)
  | 0x04 => .ok (.update a b t d)
  | 0x05 => .ok (.setfs a b t d)
  | 0x06 => .ok (.getfs a b t d)
  | 0x07 => .ok (.rdreg a b t d)
  | 0x10 => .ok (.crc8 a b t d)
  | 0x11 => .ok (.encode a b t d)
  | 0x12 => .ok (.validate a b t d)
  | 0x13 => .ok (.decode a b t d)
  | _ => .error (.illegalOpcode op)

/-- The command that stands at the port: the fields of its header and its data bytes `D[0..N)`, `N = C[31:24]` (R90, R107). -/
def decode (c : Command) : Except DecodeError Instr :=
  decodeFields (opField c.header) (aField c.header) (bField c.header) (tField c.header)
    (channel (nField c.header).toNat c.data)

/-! ## The encoder -/

/-- The header word with the given fields (R91, R110). -/
def headerWord (op a b n : Byte) (t : U32) : Word := t ++ n ++ b ++ a ++ op

/-- The words of a command with opcode `op` and the given operands. -/
def commandWords (op a b : Byte) (t : U32) (d : Bytes) : Command :=
  ⟨headerWord op a b (BitVec.ofNat 8 d.length) t, d⟩

/-- The words of a well-formed command (R91, R99, R109, R110). -/
def encode : Instr → Command
  | .init a b t d => commandWords 0x01 a b t d
  | .send a b t d => commandWords 0x02 a b t d
  | .recv a b t d => commandWords 0x03 a b t d
  | .update a b t d => commandWords 0x04 a b t d
  | .setfs a b t d => commandWords 0x05 a b t d
  | .getfs a b t d => commandWords 0x06 a b t d
  | .rdreg a b t d => commandWords 0x07 a b t d
  | .crc8 a b t d => commandWords 0x10 a b t d
  | .encode a b t d => commandWords 0x11 a b t d
  | .validate a b t d => commandWords 0x12 a b t d
  | .decode a b t d => commandWords 0x13 a b t d
  | .sendcmd b t d => commandWords 0x02 0x01 b t d
  | .recvtel b t d => commandWords 0x03 0x02 b t d
  | .recvcmd b t d => commandWords 0x03 0x01 b t d
  | .sendtel b t d => commandWords 0x02 0x02 b t d

/-! ## Words of the opcode table -/

/-- Byte `k` of a number, byte 0 least significant. -/
def byteOf (w k : Nat) : Byte := BitVec.ofNat 8 (w / 256 ^ k)

/-- The first `n` data bytes after the 8 header bytes of a number, in order. -/
def dataBytesOf (w : Nat) : Nat → Bytes
  | 0 => []
  | n + 1 => dataBytesOf w n ++ [byteOf w (8 + n)]

/-- An instruction's bits as the opcode table numbers them, as a command at the port: bits 63..0 are the header word,
the data bytes count on from bit 64, and every bit from `nbits` on is 0 (DEDUCED, safe, log 13). -/
def commandOfBits (nbits w : Nat) : Command :=
  let v := w % 2 ^ nbits
  let header : Word := BitVec.ofNat 64 v
  ⟨header, dataBytesOf v (nField header).toNat⟩

/-- The instruction the decoder reads from an opcode-table word; none where it refuses. -/
def decodeTableWord (nbits w : Nat) : Option Instr :=
  match decode (commandOfBits nbits w) with
  | .ok i => some i
  | .error _ => none

end Sys2Proof
end

