-- ==== Sys2Proof/Machine/State.lean ====
section
/-!
DEFINITION. The state of one CORE instance (10_state.md), what its ports carry (30_encoding.md R96, 60_exceptions.md R250,
R283), and the state after hardware reset (70_reset_and_hazards.md R290).
-/

namespace Sys2Proof.Machine

/-! ## What a response holds -/

/-- The status codes of R250, in its order. -/
inductive Status where
  | ok
  | invalidParameter
  /-- assigned, never produced (R252) -/
  | timeout
  | noData
  | checksumFailure
  | versionMismatch
  | hardwareFailure
  | notInitialized
  | packetTooLarge
  | typeMismatch
  | lengthMismatch
deriving DecidableEq, Repr

/-- The event bits `INFO` of a response (R97). -/
structure Info where
  /-- bit 0: the data is the failsafe payload put in by the mux -/
  fs : Bool
  /-- bit 1: the command changed `link_active` from 1 to 0 -/
  lostEv : Bool
  /-- bit 2: the command changed `link_active` from 0 to 1 -/
  upEv : Bool
  /-- bit 3: the command changed `failsafe_active` from 0 to 1 -/
  fsEv : Bool
deriving DecidableEq, Repr

/-- No event. -/
def Info.empty : Info := ⟨false, false, false, false⟩

/-- A response (R96). `M` is the number of the bytes of `q`. -/
structure Response where
  st : Status
  info : Info
  v : U32
  q : Bytes
deriving DecidableEq, Repr

/-! ## The transceiver port (R283 to R286) -/

/-- What `XCVR.transmit` answers (R284). -/
inductive TxAnswer where
  | ok
  | fail
deriving DecidableEq, Repr

/-- What `XCVR.receive` answers (R286). -/
inductive RxAnswer where
  | ok (frame : Bytes)
  | fail
deriving DecidableEq, Repr

/-- The transceiver's answers during one command, which makes each call at most once (R71). A command that makes no
call reads none of them. DESIGN CHOICE (log 3): an input of the machine, any value. -/
structure XcvrAnswers where
  transmit : TxAnswer
  available : Bool
  receive : RxAnswer
deriving DecidableEq, Repr

/-- A call the CORE makes of the transceiver. -/
inductive XcvrCall where
  | transmit (frame : Bytes)
  | available
  | receive
deriving DecidableEq, Repr

/-- What the outside world presents to the CORE: a command with the transceiver's answers during it, or a hardware reset
(log 2, 3, 9). -/
inductive Event where
  | command (c : Command) (x : XcvrAnswers)
  | hardwareReset
deriving DecidableEq, Repr

/-! ## The state -/

/-- The whole state of one CORE instance: the parameters (R6), the registers of R20 in its order, and the model's own
fields. -/
@[ext]
structure State where
  /-- the instance's parameters; no step writes them (R6; log 1) -/
  cfg : Config
  /-- R21 -/
  initialized : Bool
  /-- R22 -/
  txSequence : Byte
  /-- R23 -/
  rxSequenceLast : Byte
  /-- R24 -/
  rxValid : Bool
  /-- R25 -/
  lastRxTime : U32
  /-- R26 -/
  consecutiveMissed : U16
  /-- R27 -/
  rxSinceTick : Bool
  /-- R28 -/
  linkActive : Bool
  /-- R29 -/
  failsafeActive : Bool
  /-- R32 -/
  statSent : U32
  /-- R33 -/
  statReceived : U32
  /-- R34 -/
  statMissed : U32
  /-- R35 -/
  statCrcFail : U32
  /-- R36 -/
  statVerMismatch : U32
  /-- R37 -/
  statTypeMismatch : U32
  /-- R38 -/
  statLenError : U32
  /-- R39 -/
  linkQuality : Byte
  /-- `FS` (R40) -/
  fs : Bytes
  /-- `TXBUF` (R61) -/
  txbuf : Bytes
  /-- `RXBUF` (R62) -/
  rxbuf : Bytes
  /-- the model's own (log 2): events presented and not yet taken, the next one first -/
  pending : List Event
  /-- the model's own (log 3): the transceiver's answers during the command being run -/
  xcvr : XcvrAnswers
  /-- the model's own (log 6): the transceiver calls of the command last taken, in order -/
  calls : List XcvrCall
  /-- the model's own (log 6): the response of the command last taken -/
  response : Option Response
  /-- the model's own (log 5): how many free values have been drawn -/
  freeCount : Nat
deriving DecidableEq, Repr

/-- The CORE cannot fault (R276): no step raises a fault, and there is none to raise. That every transceiver call
returns is R276's own assumption on the environment (unsafe, log 4). -/
inductive Fault where
deriving DecidableEq, Repr

/-- Why a command has no meaning. -/
inductive Refusal where
  /-- Raised by the arms of `exec` for commands without a meaning; there is none left. Safe. -/
  | notModelled (mnemonic : String)
deriving DecidableEq, Repr

/-- The state after hardware reset of an instance with parameters `cfg`: the column "HW reset" of 10_state.md section 10
(R290). DESIGN CHOICE for the model's own fields (log 2, 3, 5, 6): nothing presented, nothing answered, nothing drawn. -/
def State.resetWith (cfg : Config) : State where
  cfg := cfg
  initialized := false
  txSequence := 0
  rxSequenceLast := 0
  rxValid := false
  lastRxTime := 0
  consecutiveMissed := 0
  rxSinceTick := false
  linkActive := false
  failsafeActive := false
  statSent := 0
  statReceived := 0
  statMissed := 0
  statCrcFail := 0
  statVerMismatch := 0
  statTypeMismatch := 0
  statLenError := 0
  linkQuality := 0
  fs := cfg.defaultFailsafe
  txbuf := List.replicate cfg.frameSize 0x00
  rxbuf := List.replicate cfg.frameSize 0x00
  pending := []
  xcvr := ⟨.fail, false, .fail⟩
  calls := []
  response := none
  freeCount := 0

/-- The machine right after hardware reset, as an instance of CFG-REF in the aircraft role (DESIGN CHOICE, log 1, 11). -/
def State.reset : State := State.resetWith (Config.ref .aircraft)

end Sys2Proof.Machine
end

