-- ==== Sys2Proof/Machine/Flags.lean ====
section
/-!
DEFINITION. Codes and flag words (10_state.md R30, 30_encoding.md R96, R97, 60_exceptions.md R250), and the saturating sums of the
counters (R13, R26, the opening of 10_state.md section 5).
-/

namespace Sys2Proof.Machine

/-- The number of a status (R250). -/
def statusCode : Status → Byte
  | .ok => 0x00
  | .invalidParameter => 0x01
  | .timeout => 0x02
  | .noData => 0x03
  | .checksumFailure => 0x04
  | .versionMismatch => 0x05
  | .hardwareFailure => 0x06
  | .notInitialized => 0x07
  | .packetTooLarge => 0x08
  | .typeMismatch => 0x09
  | .lengthMismatch => 0x0A

/-- The byte `INFO` (R97): bits 7:4 are always 0. -/
def infoByte (i : Info) : Byte :=
  (0 : BitVec 4) ++ BitVec.ofBool i.fsEv ++ BitVec.ofBool i.upEv ++ BitVec.ofBool i.lostEv ++ BitVec.ofBool i.fs

/-- The number `M` of response data bytes, as the 8-bit field holds it (R96). -/
def responseM (r : Response) : Byte := BitVec.ofNat 8 r.q.length

/-- The response word `P` (R96, R110). -/
def responseWord (r : Response) : Word :=
  r.v ++ (0 : Byte) ++ infoByte r.info ++ responseM r ++ statusCode r.st

/-- `ROLE` as a bit: 0 GROUND, 1 AIRCRAFT (R30). -/
def roleBit : Role → Bool
  | .ground => false
  | .aircraft => true

/-- The register STATUS (R30), zero-extended. -/
def statusWord (s : State) : U32 :=
  (0 : BitVec 26) ++ BitVec.ofBool (roleBit s.cfg.role) ++ BitVec.ofBool s.rxSinceTick ++ BitVec.ofBool s.rxValid ++
    BitVec.ofBool s.failsafeActive ++ BitVec.ofBool s.linkActive ++ BitVec.ofBool s.initialized

/-- `sat_16(x + m)` (R13, R26). -/
def satAdd16 (x : U16) (m : Nat) : U16 := BitVec.ofNat 16 (min (x.toNat + m) (2 ^ 16 - 1))

/-- `sat_32(x + m)` (R13, 10_state.md section 5). -/
def satAdd32 (x : U32) (m : Nat) : U32 := BitVec.ofNat 32 (min (x.toNat + m) (2 ^ 32 - 1))

end Sys2Proof.Machine
end

