-- ==== Sys2Proof/Machine/Operands.lean ====
section
/-!
DEFINITION. Operands: the packet type (R82, R92, R103), the expected lengths (R82), the capacity (R8), and the register number
(R44).
-/

namespace Sys2Proof.Machine

/-- `MAX_PAYLOAD = FRAME_SIZE - 5 - 1` (R8). -/
def maxPayload (c : Config) : Nat := c.frameSize - 5 - 1

/-- The number of a packet type (R82). -/
def typeCode : PacketType → Byte
  | .command => 0x01
  | .telemetry => 0x02
  | .heartbeat => 0x03
  | .emergency => 0x04

/-- A type operand: the type of that number, none outside `TYPES` (R82, R103). -/
def typeOfByte (a : Byte) : Option PacketType :=
  if a = typeCode .command then some .command
  else if a = typeCode .telemetry then some .telemetry
  else if a = typeCode .heartbeat then some .heartbeat
  else if a = typeCode .emergency then some .emergency
  else none

/-- `LEN[t]`, the expected payload length of a type (R82). -/
def expectedLen (c : Config) : PacketType → Nat
  | .command => c.lenCommand
  | .telemetry => c.lenTelemetry
  | .heartbeat => c.lenHeartbeat
  | .emergency => c.lenEmergency

/-- The register of a number, zero-extended to 32 bits; none for an unassigned number (R44). -/
def readReg (s : State) (number : Byte) : Option U32 :=
  match number.toNat with
  | 0 => some (statusWord s)
  | 1 => some (s.txSequence.setWidth 32)
  | 2 => some (s.rxSequenceLast.setWidth 32)
  | 3 => some s.lastRxTime
  | 4 => some (s.consecutiveMissed.setWidth 32)
  | 5 => some s.statSent
  | 6 => some s.statReceived
  | 7 => some s.statMissed
  | 8 => some s.statCrcFail
  | 9 => some s.statVerMismatch
  | 10 => some s.statTypeMismatch
  | 11 => some s.statLenError
  | 12 => some (s.linkQuality.setWidth 32)
  | 16 => some (s.cfg.protocolVersion.setWidth 32)
  | 17 => some (BitVec.ofNat 32 s.cfg.frameSize)
  | 18 => some (BitVec.ofNat 32 (maxPayload s.cfg))
  | 19 => some s.cfg.linkTimeoutMs
  | 20 => some (s.cfg.lossThreshold.setWidth 32)
  | 21 => some (s.cfg.updateRateHz.setWidth 32)
  | 22 => some (BitVec.ofNat 32 s.cfg.lenCommand)
  | 23 => some (BitVec.ofNat 32 s.cfg.lenTelemetry)
  | 24 => some (BitVec.ofNat 32 s.cfg.lenHeartbeat)
  | 25 => some (BitVec.ofNat 32 s.cfg.lenEmergency)
  | _ => none

end Sys2Proof.Machine
end

