-- ==== Sys2Proof/Machine/Ops.lean ====
section
/-!
DEFINITION. The operations the commands share: responding, answering an error (the CORE's whole error mechanism, 60_exceptions.md
R274), the calls of the transceiver (R284 to R286), the buffers (20_memory.md), hardware reset (R290) and taking a command
from the port (R90).
-/

namespace Sys2Proof.Machine

/-! ## Responses -/

/-- `respond(st, M, info, v, q)` (R14, R96). -/
def respond (st : Status) (info : Info) (v : U32) (q : Bytes) (s : State) : State :=
  { s with response := some ⟨st, info, v, q⟩ }

/-- Answering an error (R274): the response carries the status and nothing else, nothing is saved, no mode changes, no control
is transferred. There is no return from it (R275). -/
def respondError (st : Status) (s : State) : State := respond st Info.empty 0 [] s

/-- `respond(OK, 0, 0, 0, empty)`. -/
def respondOk (s : State) : State := respond .ok Info.empty 0 [] s

/-! ## Buffers -/

/-- The three byte arrays have their sizes (R60). An array is the list of its bytes, so equal arrays are equal data
(log 10). -/
abbrev Memory.wf (s : State) : Prop :=
  s.txbuf.length = s.cfg.frameSize ∧ s.rxbuf.length = s.cfg.frameSize ∧ s.fs.length = s.cfg.lenCommand

/-- Byte `i` of an array (R12, R14); 0x00 past its end, where no rule reads (R65). -/
def byteAt (b : Bytes) (i : Nat) : Byte := b.getD i 0x00

/-- `MemRead(b, i, n)`, the bytes `b[i..i+n)` (R14). -/
def sliceAt (b : Bytes) (i n : Nat) : Bytes := (b.drop i).take n

/-- `TXBUF <- f` (R61). -/
def storeTx (f : Bytes) (s : State) : State := { s with txbuf := f }

/-- `RXBUF <- f` (R62). -/
def storeRx (f : Bytes) (s : State) : State := { s with rxbuf := f }

/-- `FS <- p` (R40). -/
def storeFs (p : Bytes) (s : State) : State := { s with fs := p }

/-- `RXBUF` after a receive that failed: any content (U4, R62), a free value drawn for this failure
(DESIGN CHOICE, safe, log 5). -/
def loseRx (s : State) : State :=
  { s with
    rxbuf := (List.range s.cfg.frameSize).map (Config.rxbufAfterFail s.freeCount)
    freeCount := s.freeCount + 1 }

/-! ## The transceiver port -/

/-- A call of the transceiver, in the order the command makes it (R71). -/
def call (k : XcvrCall) (s : State) : State := { s with calls := s.calls ++ [k] }

/-- `XCVR.transmit(TXBUF)` (R284). -/
def xcvrTransmit (s : State) : TxAnswer × State := (s.xcvr.transmit, call (.transmit s.txbuf) s)

/-- `XCVR.available()` (R285). -/
def xcvrAvailable (s : State) : Bool × State := (s.xcvr.available, call .available s)

/-- `XCVR.receive()` (R286). -/
def xcvrReceive (s : State) : RxAnswer × State := (s.xcvr.receive, call .receive s)

/-! ## Steps that are no command's own -/

/-- Hardware reset (R290): every piece of state takes its reset value. The parameters are no state (R6). The model's own
inputs and the count of free values go on (DESIGN CHOICE, log 9). -/
def hardwareReset (s : State) : State :=
  { State.resetWith s.cfg with pending := s.pending, xcvr := s.xcvr, freeCount := s.freeCount }

/-- The CORE takes a command from the port (R90), with the transceiver's answers during it; the earlier command's response has
been given and its calls are over. -/
def accept (x : XcvrAnswers) (rest : List Event) (s : State) : State :=
  { s with pending := rest, xcvr := x, calls := [], response := none }

/-- A command with an illegal `OP` (R100): `InvalidParameter`, no state change, no transceiver call. -/
def illegalCommand (s : State) : State := respondError .invalidParameter s

/-! ## Checks shared by the commands (R264) -/

/-- Check (2): `N` in the command's legal set, else `InvalidParameter` (R94, R101). -/
def checkLength (legal : Bool) (work : State → State) (s : State) : State :=
  if legal then work s else respondError .invalidParameter s

/-- Check (3): `initialized = 1`, else `NotInitialized` (R257). -/
def checkInitialized (work : State → State) (s : State) : State :=
  if s.initialized then work s else respondError .notInitialized s

/-- Check (4) for a type operand: in `TYPES`, else `InvalidParameter` (R103, R251). -/
def checkType (a : Byte) (work : PacketType → State → State) (s : State) : State :=
  match typeOfByte a with
  | some ty => work ty s
  | none => respondError .invalidParameter s

end Sys2Proof.Machine
end

