-- ==== Sys2Proof/Machine/Crc.lean ====
section
/-!
DEFINITION. The CRC-8 checksum engine and the command CRC8 (40_crc8.md).
-/

namespace Sys2Proof.Machine

/-- One of the 8 rounds of `crc8_step` (R121): the test is on bit 7 before the shift; polynomial 0x07 (R9). -/
def crc8Round (acc : Byte) : Byte :=
  if acc.getLsbD 7 then (acc <<< 1) ^^^ 0x07 else acc <<< 1

/-- `crc8_step(acc, b)` (R121). -/
def crc8Step (acc b : Byte) : Byte := Nat.repeat crc8Round 8 (acc ^^^ b)

/-- `crc8(bytes)` (R120): initial value 0x00, first byte first, no reflection, no final exclusive-or. -/
def crc8 (bytes : Bytes) : Byte := bytes.foldl crc8Step 0x00

/-- CRC8 (R122): every `N` is legal, no state is written. -/
def execCrc8 (_a _b : Byte) (_t : U32) (d : Bytes) (s : State) : Host.Outcome State Fault Refusal :=
  .next (respond .ok Info.empty ((crc8 d).setWidth 32) [] s)

end Sys2Proof.Machine
end

