-- ==== Sys2Proof/Machine/Codec.lean ====
section
/-!
DEFINITION. The packet encoder and the packet decoder, and the commands ENCODE, VALIDATE and DECODE (41_codec.md).
-/

namespace Sys2Proof.Machine

/-! ## Frames (R80, R130) -/

def frameVersion (f : Bytes) : Byte := byteAt f 0
def frameType (f : Bytes) : Byte := byteAt f 1
def frameSequence (f : Bytes) : Byte := byteAt f 2
def framePayloadLen (f : Bytes) : Nat := (byteAt f 4).toNat
def frameChecksum (c : Config) (f : Bytes) : Byte := byteAt f (c.frameSize - 1)

/-- `covered(f)`, the header and the declared payload: what the checksum covers (R87, R130). -/
def frameCovered (f : Bytes) : Bytes := sliceAt f 0 (5 + framePayloadLen f)

/-- The declared payload, `f[5..5+payload_len)` (R69 b). -/
def framePayload (f : Bytes) : Bytes := sliceAt f 5 (framePayloadLen f)

/-! ## Encoder -/

/-- The header and payload area of a frame: `flags` is 0x00 and the tail is zero (R84, R131). -/
def frameBody (c : Config) (ty : PacketType) (p : Bytes) (sequence : Byte) : Bytes :=
  [c.protocolVersion, typeCode ty, sequence, 0x00, BitVec.ofNat 8 p.length] ++ p ++
    List.replicate (maxPayload c - p.length) 0x00

/-- `encode(t, p, s)` (R131, R132); none is `PacketTooLarge`. -/
def encodeFrame (c : Config) (ty : PacketType) (p : Bytes) (sequence : Byte) : Option Bytes :=
  if p.length > maxPayload c then none
  else
    let body := frameBody c ty p sequence
    some (body ++ [crc8 (sliceAt body 0 (5 + p.length))])

/-! ## Decoder -/

/-- The reasons for which the decoder rejects a frame (R146). -/
inductive Rejection where
  | versionMismatch
  | lengthMismatch
  | checksumFailure
  | typeMismatch
deriving DecidableEq, Repr

/-- The status that reports a rejection (R254, R255, R259, R260). -/
def rejectionStatus : Rejection → Status
  | .versionMismatch => .versionMismatch
  | .lengthMismatch => .lengthMismatch
  | .checksumFailure => .checksumFailure
  | .typeMismatch => .typeMismatch

/-- `validate_reason(f)` (R140): none is `Valid`. The order of the tests is normative (R141). -/
def validateReason (c : Config) (f : Bytes) : Option Rejection :=
  if frameVersion f ≠ c.protocolVersion then some .versionMismatch
  else if framePayloadLen f > maxPayload c then some .lengthMismatch
  else if crc8 (frameCovered f) ≠ frameChecksum c f then some .checksumFailure
  else none

/-- `validate(f)` (R140). -/
def validate (c : Config) (f : Bytes) : Bool := validateReason c f = none

/-- `decode(f, et, el)` (R146): the first failing test gives the reason (R265). -/
def decodeFrame (c : Config) (f : Bytes) (et : PacketType) (el : Nat) : Except Rejection Bytes :=
  match validateReason c f with
  | some r => .error r
  | none =>
    if frameType f ≠ typeCode et then .error .typeMismatch
    else if framePayloadLen f ≠ el then .error .lengthMismatch
    else .ok (framePayload f)

/-! ## Commands -/

/-- ENCODE's work on a type (R133 steps 2 and 3). -/
def encodeWork (sequence : Byte) (d : Bytes) (ty : PacketType) (s : State) : State :=
  match encodeFrame s.cfg ty d sequence with
  | some f => respond .ok Info.empty 0 f s
  | none => respondError .packetTooLarge s

/-- ENCODE (R133). -/
def execEncode (a b : Byte) (_t : U32) (d : Bytes) (s : State) : Host.Outcome State Fault Refusal :=
  .next (checkType a (encodeWork b d) s)

/-- VALIDATE (R142): the verdict is `V`, the status is `OK` either way. -/
def execValidate (_a _b : Byte) (_t : U32) (d : Bytes) (s : State) : Host.Outcome State Fault Refusal :=
  .next (checkLength (d.length = s.cfg.frameSize)
    (fun s => respond .ok Info.empty (if validate s.cfg d then 1 else 0) [] s) s)

/-- DECODE's work on a type (R147 step 2): no counter moves. -/
def decodeWork (len : Byte) (f : Bytes) (ty : PacketType) (s : State) : State :=
  match decodeFrame s.cfg f ty len.toNat with
  | .ok p => respond .ok Info.empty 0 p s
  | .error r => respondError (rejectionStatus r) s

/-- DECODE (R147). -/
def execDecode (a b : Byte) (_t : U32) (d : Bytes) (s : State) : Host.Outcome State Fault Refusal :=
  .next (checkLength (d.length = s.cfg.frameSize) (checkType a (decodeWork b d)) s)

end Sys2Proof.Machine
end

