-- ==== Sys2Proof/Machine/Failsafe.lean ====
section
/-!
DEFINITION. The failsafe command substitution mux, and the commands SETFS and GETFS (44_failsafe.md).
-/

namespace Sys2Proof.Machine

/-- The mux's condition (R230): the aircraft role, a RECV that expects a Command, a link held Lost. `link_active` is read as the
register stands. -/
def muxApplies (ty : PacketType) (s : State) : Bool :=
  s.cfg.role = .aircraft && ty = .command && !s.linkActive

/-- The mux substitutes (R230): `FS` bit always, `FS_EV` on entry only (R231). -/
def substitute (s : State) : State :=
  respond .ok { Info.empty with fs := true, fsEv := !s.failsafeActive } 0 s.fs { s with failsafeActive := true }

/-- Steps 7 and 8 of RECV (R200, R230): the end of a RECV that accepted no frame, with outcome `out`. -/
def finishWithout (ty : PacketType) (out : Status) (s : State) : State :=
  if muxApplies ty s then substitute s else respondError out s

/-- SETFS (R235). -/
def execSetfs (_a _b : Byte) (_t : U32) (d : Bytes) (s : State) : Host.Outcome State Fault Refusal :=
  .next (checkLength (d.length = s.cfg.lenCommand) (checkInitialized (fun s => respondOk (storeFs d s))) s)

/-- GETFS (R236). -/
def execGetfs (_a _b : Byte) (_t : U32) (d : Bytes) (s : State) : Host.Outcome State Fault Refusal :=
  .next (checkLength (d.length = 0) (checkInitialized (fun s => respond .ok Info.empty 0 s.fs s)) s)

end Sys2Proof.Machine
end

