-- ==== Sys2Proof/Machine/Tracker.lean ====
section
/-!
DEFINITION. The link-state tracker and the command UPDATE (42_tracker.md).
-/

namespace Sys2Proof.Machine

/-! ## Integer laws -/

/-- `gap(seq, last) = (seq - (last + 1)) mod 256` (R160). -/
def gap (seq last : Byte) : Byte := seq - (last + 1)

/-- `missed_of(g) = min(g, LOSS_THRESHOLD)` (R161). -/
def missedOf (c : Config) (g : Byte) : Nat := min g.toNat c.lossThreshold.toNat

/-- `m` more missed frames: `consecutive_missed` and `stat_missed` receive the same increment (R34). -/
def addMissed (m : Nat) (s : State) : State :=
  { s with
    consecutiveMissed := satAdd16 s.consecutiveMissed m
    statMissed := satAdd32 s.statMissed m }

/-- `consecutive_missed <- 0`. -/
def clearMissed (s : State) : State := { s with consecutiveMissed := 0 }

/-! ## Triggers and transition -/

/-- `timeout_stale(T)`: strict, modulo 2^32 (R165). -/
def timeoutStale (t : U32) (s : State) : Bool := (t - s.lastRxTime).toNat > s.cfg.linkTimeoutMs.toNat

/-- `threshold_stale` (R166). -/
def thresholdStale (s : State) : Bool := s.consecutiveMissed.toNat ≥ s.cfg.lossThreshold.toNat

/-- The transition rule's formula (R167). -/
def linkFresh (t : U32) (s : State) : Bool := !timeoutStale t s && !thresholdStale s

/-- The events `EVAL_LINK(T)` reports (R167). -/
def evalInfo (t : U32) (s : State) : Info :=
  { Info.empty with
    lostEv := s.linkActive && !linkFresh t s
    upEv := !s.linkActive && linkFresh t s }

/-- `EVAL_LINK(T)` (R167): a transition from Lost to Active clears `consecutive_missed`. -/
def evalLink (t : U32) (s : State) : Info × State :=
  (evalInfo t s,
    { s with
      linkActive := linkFresh t s
      consecutiveMissed := if !s.linkActive && linkFresh t s then 0 else s.consecutiveMissed })

/-- Step 1 of `OBSERVE` (R162): the gap is counted only on an Active link with a last sequence number; the first frame (R163) and
a re-acquisition (R164) clear the count. -/
def countGap (seq : Byte) (s : State) : State :=
  if s.rxValid && s.linkActive then
    if (gap seq s.rxSequenceLast).toNat > 0 then addMissed (missedOf s.cfg (gap seq s.rxSequenceLast)) s
    else clearMissed s
  else clearMissed s

/-- Step 2 of `OBSERVE` (R162). -/
def markReceived (seq : Byte) (t : U32) (s : State) : State :=
  { s with rxSequenceLast := seq, lastRxTime := t, rxValid := true, rxSinceTick := true }

/-- `OBSERVE(seq, T)` (R162). -/
def observe (seq : Byte) (t : U32) (s : State) : Info × State :=
  evalLink t (markReceived seq t (countGap seq s))

/-! ## Link quality -/

/-- `quality(sent, missed)` (R176), over exact integers. -/
def quality (sent missed : U32) : Byte :=
  if sent.toNat = 0 then 0
  else if missed.toNat ≥ sent.toNat then 0
  else BitVec.ofNat 8 (100 * (sent.toNat - missed.toNat) / sent.toNat)

/-! ## UPDATE -/

/-- Steps 2 and 3 of UPDATE (R170): a tick with no accepted frame since the previous one counts one miss. -/
def countTick (s : State) : State :=
  if s.rxSinceTick then { s with rxSinceTick := false } else addMissed 1 s

/-- Step 5 of UPDATE (R170, R39). -/
def storeQuality (s : State) : State := { s with linkQuality := quality s.statSent s.statMissed }

/-- Steps 2 to 6 of UPDATE (R170). -/
def updateWork (t : U32) (s : State) : State :=
  let r := evalLink t (countTick s)
  respond .ok r.1 0 [] (storeQuality r.2)

/-- UPDATE (R170). -/
def execUpdate (_a _b : Byte) (t : U32) (d : Bytes) (s : State) : Host.Outcome State Fault Refusal :=
  .next (checkLength (d.length = 0) (checkInitialized (updateWork t)) s)

end Sys2Proof.Machine
end

