-- ==== Sys2Proof/Machine/Session.lean ====
section
/-!
DEFINITION. The link session commands INIT, SEND, RECV and RDREG (43_session.md) and the pseudo-commands (30_encoding.md R109).
-/

namespace Sys2Proof.Machine

/-! ## INIT -/

/-- INIT's effect (R190): a new session, with the clock's baseline at `T`. -/
def initSession (t : U32) (s : State) : State :=
  { s with
    initialized := true
    txSequence := 0
    rxSequenceLast := 0
    rxValid := false
    lastRxTime := t
    consecutiveMissed := 0
    rxSinceTick := false
    linkActive := true
    failsafeActive := false
    statSent := 0
    statReceived := 0
    statMissed := 0
    statCrcFail := 0
    statVerMismatch := 0
    statTypeMismatch := 0
    statLenError := 0
    linkQuality := 0
    fs := s.cfg.defaultFailsafe
    txbuf := List.replicate s.cfg.frameSize 0x00
    rxbuf := List.replicate s.cfg.frameSize 0x00 }

/-- INIT (R190). -/
def execInit (_a _b : Byte) (t : U32) (d : Bytes) (s : State) : Host.Outcome State Fault Refusal :=
  .next (checkLength (d.length = 0) (fun s => respondOk (initSession t s)) s)

/-! ## SEND -/

/-- Step 7 of SEND (R195, R197): the sequence number wraps, the count saturates, both move together. -/
def countSent (s : State) : State :=
  { s with txSequence := s.txSequence + 1, statSent := satAdd32 s.statSent 1 }

/-- Steps 5 to 7 of SEND (R195): one transmit, no retry (R196). -/
def transmitFrame (s : State) : State :=
  match xcvrTransmit s with
  | (.ok, s) => respondOk (countSent s)
  | (.fail, s) => respondError .hardwareFailure s

/-- Steps 3 and 4 of SEND, then the rest (R195). -/
def sendWork (d : Bytes) (ty : PacketType) (s : State) : State :=
  match encodeFrame s.cfg ty d s.txSequence with
  | some f => transmitFrame (storeTx f s)
  | none => respondError .packetTooLarge s

/-- SEND with type operand `a` and payload `d` (R195). Every `N` is in its legal set (R94, R264). -/
def sendCommand (a : Byte) (d : Bytes) (s : State) : State :=
  checkInitialized (checkType a (sendWork d)) s

/-- SEND (R195). -/
def execSend (a _b : Byte) (_t : U32) (d : Bytes) (s : State) : Host.Outcome State Fault Refusal :=
  .next (sendCommand a d s)

/-- SENDCMD is `SEND type=0x01` (R109). -/
def execSendcmd (_b : Byte) (_t : U32) (d : Bytes) (s : State) : Host.Outcome State Fault Refusal :=
  .next (sendCommand 0x01 d s)

/-- SENDTEL is `SEND type=0x02` (R109). -/
def execSendtel (_b : Byte) (_t : U32) (d : Bytes) (s : State) : Host.Outcome State Fault Refusal :=
  .next (sendCommand 0x02 d s)

/-! ## RECV -/

/-- `count(d)`: one rejection counter, chosen by the reason, moves by 1 (R207). -/
def countRejection (r : Rejection) (s : State) : State :=
  match r with
  | .checksumFailure => { s with statCrcFail := satAdd32 s.statCrcFail 1 }
  | .versionMismatch => { s with statVerMismatch := satAdd32 s.statVerMismatch 1 }
  | .typeMismatch => { s with statTypeMismatch := satAdd32 s.statTypeMismatch 1 }
  | .lengthMismatch => { s with statLenError := satAdd32 s.statLenError 1 }

/-- The registers step 6 of RECV writes beside the tracker's (R206). -/
def countReceived (s : State) : State :=
  { s with failsafeActive := false, statReceived := satAdd32 s.statReceived 1 }

/-- Step 6 of RECV (R200, R206): the frame in `RXBUF` was accepted with payload `p`. -/
def acceptFrame (p : Bytes) (t : U32) (s : State) : State :=
  let r := observe (frameSequence s.rxbuf) t s
  respond .ok r.1 0 p (countReceived r.2)

/-- Step 5 of RECV and what follows (R200): the decoder reads `RXBUF`. -/
def judgeFrame (ty : PacketType) (t : U32) (s : State) : State :=
  match decodeFrame s.cfg s.rxbuf ty (expectedLen s.cfg ty) with
  | .ok p => acceptFrame p t s
  | .error r => finishWithout ty (rejectionStatus r) (countRejection r s)

/-- Step 4 of RECV and what follows (R200, R202). -/
def receiveFrame (ty : PacketType) (t : U32) (s : State) : State :=
  match xcvrReceive s with
  | (.ok bytes, s) => judgeFrame ty t (storeRx (channel s.cfg.frameSize bytes) s)
  | (.fail, s) => finishWithout ty .hardwareFailure (loseRx s)

/-- Step 3 of RECV and what follows (R200, R201). -/
def recvWork (t : U32) (ty : PacketType) (s : State) : State :=
  match xcvrAvailable s with
  | (true, s) => receiveFrame ty t s
  | (false, s) => finishWithout ty .noData s

/-- RECV with expected type operand `a` (R200). -/
def recvCommand (a : Byte) (t : U32) (d : Bytes) (s : State) : State :=
  checkLength (d.length = 0) (checkInitialized (checkType a (recvWork t))) s

/-- RECV (R200). -/
def execRecv (a _b : Byte) (t : U32) (d : Bytes) (s : State) : Host.Outcome State Fault Refusal :=
  .next (recvCommand a t d s)

/-- RECVTEL is `RECV type=0x02` (R109). -/
def execRecvtel (_b : Byte) (t : U32) (d : Bytes) (s : State) : Host.Outcome State Fault Refusal :=
  .next (recvCommand 0x02 t d s)

/-- RECVCMD is `RECV type=0x01` (R109). -/
def execRecvcmd (_b : Byte) (t : U32) (d : Bytes) (s : State) : Host.Outcome State Fault Refusal :=
  .next (recvCommand 0x01 t d s)

/-! ## RDREG -/

/-- RDREG's work (R210): reads have no side effect. -/
def readWork (a : Byte) (s : State) : State :=
  match readReg s a with
  | some v => respond .ok Info.empty v [] s
  | none => respondError .invalidParameter s

/-- RDREG (R210). -/
def execRdreg (a _b : Byte) (_t : U32) (d : Bytes) (s : State) : Host.Outcome State Fault Refusal :=
  .next (checkLength (d.length = 0) (readWork a) s)

end Sys2Proof.Machine
end

