-- ==== Sys2Proof/Machine/Dispatch.lean ====
section
/-!
DEFINITION. The dispatch of a command to its meaning, one arm per constructor of Instr.
-/

namespace Sys2Proof.Machine

def exec (i : Instr) (s : State) : Host.Outcome State Fault Refusal :=
  match i with
  | .init a b t d => Sys2Proof.Machine.execInit a b t d s
  | .send a b t d => Sys2Proof.Machine.execSend a b t d s
  | .recv a b t d => Sys2Proof.Machine.execRecv a b t d s
  | .update a b t d => Sys2Proof.Machine.execUpdate a b t d s
  | .setfs a b t d => Sys2Proof.Machine.execSetfs a b t d s
  | .getfs a b t d => Sys2Proof.Machine.execGetfs a b t d s
  | .rdreg a b t d => Sys2Proof.Machine.execRdreg a b t d s
  | .crc8 a b t d => Sys2Proof.Machine.execCrc8 a b t d s
  | .encode a b t d => Sys2Proof.Machine.execEncode a b t d s
  | .validate a b t d => Sys2Proof.Machine.execValidate a b t d s
  | .decode a b t d => Sys2Proof.Machine.execDecode a b t d s
  | .sendcmd b t d => Sys2Proof.Machine.execSendcmd b t d s
  | .recvtel b t d => Sys2Proof.Machine.execRecvtel b t d s
  | .recvcmd b t d => Sys2Proof.Machine.execRecvcmd b t d s
  | .sendtel b t d => Sys2Proof.Machine.execSendtel b t d s

end Sys2Proof.Machine
end

