-- ==== Sys2Proof/Machine/Step.lean ====
section
/-!
DEFINITION. One step of the machine, and the host's way to present an opcode-table word.
-/

namespace Sys2Proof.Machine

/-- One step: the CORE takes the next event that the outside world has presented. A command runs whole, to its response (R15, R70);
an illegal `OP` is answered `InvalidParameter` (R100); hardware reset is R290. With nothing presented the CORE is idle and
nothing happens (R270, R289). -/
def step (s : State) : Host.Outcome State Fault Refusal :=
  match s.pending with
  | [] => .next s
  | .hardwareReset :: rest => .next (hardwareReset { s with pending := rest })
  | .command c x :: rest =>
    match decode c with
    | .ok i => exec i (accept x rest s)
    | .error (.illegalOpcode _) => .next (illegalCommand (accept x rest s))

/-- `s` with the command of an opcode-table word presented before all that is already waiting; the transceiver's answers during it are
those `s` holds (log 2). -/
def State.withFetchWord (s : State) (nbits w : Nat) : State :=
  { s with pending := .command (commandOfBits nbits w) s.xcvr :: s.pending }

end Sys2Proof.Machine
end

