-- ==== Sys2Proof/Safety.lean ====
section
/-!
DEFINITION. The terms the statements use: the spec's state alone, the invariant of a run, the forms of a command, and the spec's lists of
tests and registers written out.
-/

namespace Sys2Proof.Machine

/-- The spec's state (R20) and the parameters, with the model's own fields blanked: two states agree on everything the spec gives
the machine when their `onlyCore` are equal. -/
def State.onlyCore (s : State) : State :=
  { s with pending := [], xcvr := ⟨.fail, false, .fail⟩, calls := [], response := none, freeCount := 0 }

/-- What holds of every state of a run of a legal instance, and what every step keeps. -/
structure State.Inv (s : State) : Prop where
  /-- the constraints between parameters (after R9) -/
  legal : s.cfg.Legal
  /-- every buffer has its size (R60) -/
  memory : Memory.wf s
  /-- `TXBUF` is as reset and INIT leave it or holds a frame the encoder built, which is valid (R61) -/
  sentFrame : s.txbuf = List.replicate s.cfg.frameSize 0x00 ∨ validate s.cfg s.txbuf = true
  /-- `link_quality` holds 0..100 (R39) -/
  quality : s.linkQuality.toNat ≤ 100
  /-- an Active link is below the loss threshold (R166, R167) -/
  activeBelow : s.linkActive = true → s.consecutiveMissed.toNat < s.cfg.lossThreshold.toNat
  /-- `rx_valid` says that a frame was accepted, and so does `stat_received` (R24, R33) -/
  received : s.rxValid = true ↔ s.statReceived ≠ 0
  /-- a frame accepted since the last tick was accepted since INIT (R27) -/
  tick : s.rxSinceTick = true → s.rxValid = true
  /-- before the first accepted frame `rx_sequence_last` is 0 (R23) -/
  never : s.rxValid = false → s.rxSequenceLast = 0
  /-- nothing sets `failsafe_active` in the GROUND role (R29) -/
  failsafeRole : s.failsafeActive = true → s.cfg.role = .aircraft
  /-- `tx_sequence` and `stat_sent` move together (R197), so they agree until the count saturates -/
  sent : s.statSent.toNat < 2 ^ 32 - 1 → s.txSequence.toNat = s.statSent.toNat % 256
  /-- both missed counts receive the same increments, and only the first is ever cleared alone (R34) -/
  missed : s.consecutiveMissed.toNat ≤ s.statMissed.toNat
  /-- between reset and the first INIT nothing but `initialized = 0` has happened (R291) -/
  fresh : s.initialized = false → s.onlyCore = State.resetWith s.cfg

/-- `i` is SEND with these operands, or the pseudo-command that stands for it (R109). -/
abbrev sendForm (a b : Byte) (t : U32) (d : Bytes) (i : Instr) : Prop :=
  i = .send a b t d ∨ (a = 0x01 ∧ i = .sendcmd b t d) ∨ (a = 0x02 ∧ i = .sendtel b t d)

/-- `i` is RECV with these operands, or the pseudo-command that stands for it (R109). -/
abbrev recvForm (a b : Byte) (t : U32) (d : Bytes) (i : Instr) : Prop :=
  i = .recv a b t d ∨ (a = 0x01 ∧ i = .recvcmd b t d) ∨ (a = 0x02 ∧ i = .recvtel b t d)

/-- `i` is SEND or one of its pseudo-commands. -/
def isSend : Instr → Bool
  | .send _ _ _ _ | .sendcmd _ _ _ | .sendtel _ _ _ => true
  | _ => false

/-- `i` is RECV or one of its pseudo-commands. -/
def isRecv : Instr → Bool
  | .recv _ _ _ _ | .recvcmd _ _ _ | .recvtel _ _ _ => true
  | _ => false

/-- `i` is UPDATE. -/
def isUpdate : Instr → Bool
  | .update _ _ _ _ => true
  | _ => false

/-- `i` is INIT. -/
def isInit : Instr → Bool
  | .init _ _ _ _ => true
  | _ => false

/-- `i` is SETFS. -/
def isSetfs : Instr → Bool
  | .setfs _ _ _ _ => true
  | _ => false

/-- The response carries an accepted frame's payload (R261): `OK`, and not the mux's substitution. -/
def accepted (r : Response) : Bool := r.st = .ok && !r.info.fs

/-- The response of an error (R274). -/
abbrev errorResponse (st : Status) : Response := ⟨st, ⟨false, false, false, false⟩, 0, []⟩

/-- The decoder's five tests in order, each with the status of its failure (R146, R265). -/
def frameTests (c : Config) (f : Bytes) (et : Byte) (el : Nat) : List (Bool × Status) :=
  [(f.getD 0 0 == c.protocolVersion, .versionMismatch),
   (decide ((f.getD 4 0).toNat ≤ c.frameSize - 6), .lengthMismatch),
   (crc8 (f.take (5 + (f.getD 4 0).toNat)) == f.getD (c.frameSize - 1) 0, .checksumFailure),
   (f.getD 1 0 == et, .typeMismatch),
   ((f.getD 4 0).toNat == el, .lengthMismatch)]

/-- The status of the first failing test; none when all pass, which is acceptance (R16, R146). -/
def firstFailing (c : Config) (f : Bytes) (et : Byte) (el : Nat) : Option Status :=
  ((frameTests c f et el).find? (fun p => !p.1)).map (·.2)

/-- The register table of R44: number and content, zero-extended. -/
def registerTable (s : State) : List (Byte × Nat) :=
  [(0, s.initialized.toNat + 2 * s.linkActive.toNat + 4 * s.failsafeActive.toNat + 8 * s.rxValid.toNat +
      16 * s.rxSinceTick.toNat + (if s.cfg.role = .aircraft then 32 else 0)),
   (1, s.txSequence.toNat), (2, s.rxSequenceLast.toNat), (3, s.lastRxTime.toNat), (4, s.consecutiveMissed.toNat),
   (5, s.statSent.toNat), (6, s.statReceived.toNat), (7, s.statMissed.toNat), (8, s.statCrcFail.toNat),
   (9, s.statVerMismatch.toNat), (10, s.statTypeMismatch.toNat), (11, s.statLenError.toNat), (12, s.linkQuality.toNat),
   (16, s.cfg.protocolVersion.toNat), (17, s.cfg.frameSize), (18, s.cfg.frameSize - 6), (19, s.cfg.linkTimeoutMs.toNat),
   (20, s.cfg.lossThreshold.toNat), (21, s.cfg.updateRateHz.toNat), (22, s.cfg.lenCommand), (23, s.cfg.lenTelemetry),
   (24, s.cfg.lenHeartbeat), (25, s.cfg.lenEmergency)]

/-- `sat_N(x + m)` as a number (R13). -/
def satSum (n x m : Nat) : Nat := min (x + m) (2 ^ n - 1)

/-- `(T - last_rx_time) mod 2^32` as a number (R165). -/
def elapsed (t last : U32) : Nat := (t.toNat + 2 ^ 32 - last.toNat) % 2 ^ 32

/-- The state after `UPDATE t=T`, where it answers one. -/
def afterUpdate (s : State) (t : U32) : State :=
  match exec (.update 0 0 t []) s with
  | .next u => u
  | _ => s

/-- The state after the UPDATE commands with these time operands, one after another. -/
def afterUpdates (s : State) (ts : List U32) : State := ts.foldl afterUpdate s

end Sys2Proof.Machine
end

