-- ==== Sys2Proof/Certificates/Slice0/Obligations.lean ====
section
/-!
DEFINITION. The statements about the CORE, each from a rule of spec/.
-/

open Sys2Proof Sys2Proof.Machine

/-! ## Encoding -/

/-- R91, R99, R109: the words of a well-formed command decode to that command, whatever its operands. That words with
type 0x01 or 0x02 have the pseudo-command's name is the model's choice (log 7). -/
def Obligations.DecodeInvertsEncode : Prop :=
  ∀ i : Instr, i.wellFormed = true → decode (encode i) = .ok i

/-- R90, R91, R99, R109: a command at the port with exactly `N` data bytes is the encoding of what it decodes to, and
that is well-formed, so no two commands at the port mean the same. The names of the pseudo-commands are the model's
choice (log 7). -/
def Obligations.EncodeInvertsDecode : Prop :=
  ∀ (c : Command) (i : Instr), c.data.length = (nField c.header).toNat → decode c = .ok i →
    i.wellFormed = true ∧ encode i = c

/-- R110: the header and the response word as numbers, and the rule's three examples. -/
def Obligations.WordsAreSumsOfTheirFields : Prop :=
  (∀ (op a b : Byte) (t : U32) (d : Bytes), d.length ≤ 255 →
    (commandWords op a b t d).header.toNat =
      op.toNat + a.toNat * 2 ^ 8 + b.toNat * 2 ^ 16 + d.length * 2 ^ 24 + t.toNat * 2 ^ 32) ∧
  (∀ r : Response, r.q.length ≤ 255 →
    (responseWord r).toNat =
      (statusCode r.st).toNat + r.q.length * 2 ^ 8 + (infoByte r.info).toNat * 2 ^ 16 + r.v.toNat * 2 ^ 32) ∧
  (encode (.recvcmd 0 20 [])).header = 0x0000001400000103#64 ∧
  (∀ d : Bytes, d.length = 18 → (encode (.encode 0x01 42 0 d)).header = 0x00000000122A0111#64) ∧
  (∀ d : Bytes, d.length = 18 → responseWord ⟨.ok, ⟨true, false, false, true⟩, 0, d⟩ = 0x0000000000091200#64)

/-- R91: where each field of the header lies. -/
def Obligations.HeaderFieldsLieWhereTheTableSays : Prop :=
  ∀ c : Word,
    (opField c).toNat = c.toNat % 2 ^ 8 ∧ (aField c).toNat = c.toNat / 2 ^ 8 % 2 ^ 8 ∧
    (bField c).toNat = c.toNat / 2 ^ 16 % 2 ^ 8 ∧ (nField c).toNat = c.toNat / 2 ^ 24 % 2 ^ 8 ∧
    (tField c).toNat = c.toNat / 2 ^ 32

/-- R99, R108, R109, R110: words written out from the spec's encoding table and vectors decode to the commands they stand for. The names of
the pseudo-commands are the model's choice (log 7). -/
def Obligations.SampleWordsDecode : Prop :=
  decode ⟨0x0000138800000001#64, []⟩ = .ok (.init 0 0 5000 []) ∧
  decode ⟨0x0000000000000302#64, []⟩ = .ok (.send 0x03 0 0 []) ∧
  decode ⟨0x0000001400000303#64, []⟩ = .ok (.recv 0x03 0 20 []) ∧
  decode ⟨0x0000001400000103#64, []⟩ = .ok (.recvcmd 0 20 []) ∧
  decode ⟨0x0000000A00000203#64, []⟩ = .ok (.recvtel 0 10 []) ∧
  decode ⟨0x0000000002000102#64, [0x10, 0x11]⟩ = .ok (.sendcmd 0 0 [0x10, 0x11]) ∧
  decode ⟨0x0000000001000202#64, [0xAA]⟩ = .ok (.sendtel 0 0 [0xAA]) ∧
  decode ⟨0x0000001400000004#64, []⟩ = .ok (.update 0 0 20 []) ∧
  decode ⟨0x0000000000000407#64, []⟩ = .ok (.rdreg 0x04 0 0 []) ∧
  decode ⟨0x0000000002000010#64, [0x01, 0x02]⟩ = .ok (.crc8 0 0 0 [0x01, 0x02]) ∧
  decode ⟨0x00000000012A0111#64, [0x07]⟩ = .ok (.encode 0x01 0x2A 0 [0x07]) ∧
  decode ⟨0x0000004D00000908#64, []⟩ = .error (.illegalOpcode 0x08)

/-! ## Steps -/

/-- R15, R70, R90: a step runs the command that the next event's words decode to, on the state with that event taken,
the transceiver's answers during it in place, and the earlier command's calls and response over. That the command
comes from `pending` is the model's choice (log 2, 3, 6). -/
def Obligations.StepRunsTheDecodedCommand : Prop :=
  ∀ (s : State) (c : Command) (x : XcvrAnswers) (rest : List Event) (i : Instr),
    s.pending = .command c x :: rest → decode c = .ok i →
    step s = exec i { s with pending := rest, xcvr := x, calls := [], response := none }

/-- R100: every `OP` outside R99 is answered `InvalidParameter` with no state change and no transceiver call; every
other is a command. -/
def Obligations.IllegalOpcodesAnswerInvalidParameter : Prop :=
  (∀ (s : State) (c : Command) (x : XcvrAnswers) (rest : List Event), s.pending = .command c x :: rest →
    (c.header.toNat % 256 = 0 ∨ (8 ≤ c.header.toNat % 256 ∧ c.header.toNat % 256 ≤ 15) ∨ 20 ≤ c.header.toNat % 256) →
    step s = .next { s with
      pending := rest, xcvr := x, calls := [], response := some (errorResponse .invalidParameter) }) ∧
  (∀ c : Command,
    ((1 ≤ c.header.toNat % 256 ∧ c.header.toNat % 256 ≤ 7) ∨ (16 ≤ c.header.toNat % 256 ∧ c.header.toNat % 256 ≤ 19)) →
    ∃ i, decode c = .ok i)

/-- R270, R289: with nothing presented the CORE is idle and a step changes nothing. That there is an idle step is the
model's choice (log 2). -/
def Obligations.NothingHappensBetweenCommands : Prop :=
  ∀ s : State, s.pending = [] → step s = .next s

/-- R290: hardware reset puts every piece of state at its reset value and calls no transceiver; `State.reset` is such a
state. The fields `pending`, `xcvr`, `calls`, `response` and `freeCount` are the model's own (log 2, 3, 5, 6, 9), of
no rule. The role of `State.reset` is the model's choice (log 11). -/
def Obligations.HardwareResetGivesTheResetValues : Prop :=
  (∀ (s : State) (rest : List Event), s.pending = .hardwareReset :: rest →
    step s = .next { s with
      initialized := false, txSequence := 0, rxSequenceLast := 0, rxValid := false, lastRxTime := 0
      consecutiveMissed := 0, rxSinceTick := false, linkActive := false, failsafeActive := false
      statSent := 0, statReceived := 0, statMissed := 0, statCrcFail := 0, statVerMismatch := 0
      statTypeMismatch := 0, statLenError := 0, linkQuality := 0
      fs := s.cfg.defaultFailsafe
      txbuf := List.replicate s.cfg.frameSize 0, rxbuf := List.replicate s.cfg.frameSize 0
      pending := rest, calls := [], response := none }) ∧
  ∀ s : State, s.pending = [.hardwareReset] → s.cfg = Config.ref .aircraft →
    ∃ t, step s = .next t ∧ t.onlyCore = State.reset.onlyCore

/-- R276: every step answers a next state, and every command presented gets one response. It rests on R276's own
assumption that every transceiver call returns (log 4). -/
def Obligations.EveryCommandGetsItsResponse : Prop :=
  (∀ s : State, ∃ t, step s = .next t) ∧
  ∀ (s : State) (c : Command) (x : XcvrAnswers) (rest : List Event), s.pending = .command c x :: rest →
    ∃ t r, step s = .next t ∧ t.pending = rest ∧ t.response = some r

/-! ## The checks all commands share -/

/-- R101: an `N` outside the legal set of R94 is answered `InvalidParameter`, before every other check. -/
def Obligations.IllegalLengthAnswersInvalidParameter : Prop :=
  (∀ (a b : Byte) (t : U32) (d : Bytes) (s : State) (i : Instr), d ≠ [] →
    (i = .init a b t d ∨ i = .update a b t d ∨ i = .getfs a b t d ∨ i = .rdreg a b t d ∨ recvForm a b t d i) →
    exec i s = .next { s with response := some (errorResponse .invalidParameter) }) ∧
  (∀ (a b : Byte) (t : U32) (d : Bytes) (s : State), d.length ≠ s.cfg.lenCommand →
    exec (.setfs a b t d) s = .next { s with response := some (errorResponse .invalidParameter) }) ∧
  ∀ (a b : Byte) (t : U32) (d : Bytes) (s : State) (i : Instr), d.length ≠ s.cfg.frameSize →
    (i = .validate a b t d ∨ i = .decode a b t d) →
    exec i s = .next { s with response := some (errorResponse .invalidParameter) }

/-- R257: the session commands answer `NotInitialized` and change nothing while `initialized = 0`; no other command ever
does, and none does once `initialized = 1`. -/
def Obligations.SessionCommandsNeedInit : Prop :=
  (∀ (a b : Byte) (t : U32) (d : Bytes) (s : State) (i : Instr), s.initialized = false →
    (sendForm a b t d i ∨ (d = [] ∧ (recvForm a b t d i ∨ i = .update a b t d ∨ i = .getfs a b t d)) ∨
      (d.length = s.cfg.lenCommand ∧ i = .setfs a b t d)) →
    exec i s = .next { s with response := some (errorResponse .notInitialized) }) ∧
  ∀ (i : Instr) (s u : State) (r : Response), exec i s = .next u → u.response = some r → r.st = .notInitialized →
    s.initialized = false ∧
      (isSend i = true ∨ isRecv i = true ∨ isUpdate i = true ∨ isSetfs i = true ∨ ∃ a b t d, i = .getfs a b t d)

/-- R102: an operand a command does not use has no effect. -/
def Obligations.UnusedOperandsHaveNoEffect : Prop :=
  ∀ (a a' b b' : Byte) (t t' : U32) (d : Bytes) (s : State),
    exec (.init a b t d) s = exec (.init a' b' t d) s ∧
    exec (.send a b t d) s = exec (.send a b' t' d) s ∧
    exec (.sendcmd b t d) s = exec (.sendcmd b' t' d) s ∧
    exec (.sendtel b t d) s = exec (.sendtel b' t' d) s ∧
    exec (.recv a b t d) s = exec (.recv a b' t d) s ∧
    exec (.recvcmd b t d) s = exec (.recvcmd b' t d) s ∧
    exec (.recvtel b t d) s = exec (.recvtel b' t d) s ∧
    exec (.update a b t d) s = exec (.update a' b' t d) s ∧
    exec (.setfs a b t d) s = exec (.setfs a' b' t' d) s ∧
    exec (.getfs a b t d) s = exec (.getfs a' b' t' d) s ∧
    exec (.rdreg a b t d) s = exec (.rdreg a b' t' d) s ∧
    exec (.crc8 a b t d) s = exec (.crc8 a' b' t' d) s ∧
    exec (.encode a b t d) s = exec (.encode a b t' d) s ∧
    exec (.validate a b t d) s = exec (.validate a' b' t' d) s ∧
    exec (.decode a b t d) s = exec (.decode a b t' d) s

/-- R109: the pseudo-commands are their expansions. -/
def Obligations.PseudoCommandsAreTheirExpansions : Prop :=
  ∀ (b : Byte) (t : U32) (d : Bytes) (s : State),
    exec (.sendcmd b t d) s = exec (.send 0x01 b t d) s ∧ exec (.recvtel b t d) s = exec (.recv 0x02 b t d) s ∧
    exec (.recvcmd b t d) s = exec (.recv 0x01 b t d) s ∧ exec (.sendtel b t d) s = exec (.send 0x02 b t d) s

/-! ## The codec -/

/-- R120, R121: the checksum is the fold of `crc8_step` from 0x00, and `crc8_step` is eight rounds of shift and
conditional exclusive-or with 0x07 after the byte is combined in. -/
def Obligations.ChecksumIsComputedBitByBit : Prop :=
  crc8 [] = 0 ∧ (∀ (m : Bytes) (b : Byte), crc8 (m ++ [b]) = crc8Step (crc8 m) b) ∧
  ∀ acc b : Byte,
    let round := fun x : Byte =>
      if 128 ≤ x.toNat then BitVec.ofNat 8 (2 * x.toNat % 256) ^^^ 0x07 else BitVec.ofNat 8 (2 * x.toNat)
    crc8Step acc b = round (round (round (round (round (round (round (round (acc ^^^ b))))))))

/-- R123: composition, zero input, the one-byte table and linearity. -/
def Obligations.ChecksumLaws : Prop :=
  (∀ x y : Bytes, crc8 (x ++ y) = y.foldl crc8Step (crc8 x)) ∧
  (crc8Step 0 0 = 0 ∧ (∀ n, crc8 (List.replicate n 0) = 0) ∧ ∀ n x, crc8 (List.replicate n 0 ++ x) = crc8 x) ∧
  (∀ b : Byte, crc8 [b] = crc8Step 0 b) ∧
  ∀ x y : Bytes, x.length = y.length → crc8 (List.zipWith (· ^^^ ·) x y) = crc8 x ^^^ crc8 y

/-- R124: a message followed by its own checksum has checksum 0x00. -/
def Obligations.ChecksumOfAMessageWithItsChecksumIsZero : Prop :=
  ∀ m : Bytes, crc8 (m ++ [crc8 m]) = 0

/-- R122: CRC8 answers the checksum of its data bytes in `V` and changes nothing, in every state. -/
def Obligations.Crc8AnswersTheChecksum : Prop :=
  ∀ (a b : Byte) (t : U32) (d : Bytes) (s : State),
    exec (.crc8 a b t d) s = .next { s with
      response := some ⟨.ok, ⟨false, false, false, false⟩, BitVec.ofNat 32 (crc8 d).toNat, []⟩ }

/-- R133 with R131: ENCODE in every state: the type first, then the size, then the frame byte by byte. -/
def Obligations.EncodeFollowsItsSteps : Prop :=
  ∀ (a b : Byte) (t : U32) (d : Bytes) (s : State),
    exec (.encode a b t d) s = .next { s with
      response := some (
        if a ∉ [0x01, 0x02, 0x03, 0x04] then errorResponse .invalidParameter
        else if s.cfg.frameSize - 6 < d.length then errorResponse .packetTooLarge
        else
          let header := [s.cfg.protocolVersion, a, b, 0x00, BitVec.ofNat 8 d.length]
          ⟨.ok, ⟨false, false, false, false⟩, 0,
            header ++ d ++ List.replicate (s.cfg.frameSize - 6 - d.length) 0x00 ++ [crc8 (header ++ d)]⟩) }

/-- R142 with R140: VALIDATE in every state: the verdict of the three tests in `V`. -/
def Obligations.ValidateAnswersTheVerdict : Prop :=
  ∀ (a b : Byte) (t : U32) (d : Bytes) (s : State),
    exec (.validate a b t d) s = .next { s with
      response := some (
        if d.length ≠ s.cfg.frameSize then errorResponse .invalidParameter
        else ⟨.ok, ⟨false, false, false, false⟩,
          if d.getD 0 0 = s.cfg.protocolVersion ∧ (d.getD 4 0).toNat ≤ s.cfg.frameSize - 6 ∧
            crc8 (d.take (5 + (d.getD 4 0).toNat)) = d.getD (s.cfg.frameSize - 1) 0 then 1 else 0, []⟩) }

/-- R147 with R146, R265: DECODE in every state: the first failing test, or exactly the declared payload. -/
def Obligations.DecodeFollowsItsSteps : Prop :=
  ∀ (a b : Byte) (t : U32) (d : Bytes) (s : State),
    exec (.decode a b t d) s = .next { s with
      response := some (
        if d.length ≠ s.cfg.frameSize then errorResponse .invalidParameter
        else if a ∉ [0x01, 0x02, 0x03, 0x04] then errorResponse .invalidParameter
        else match firstFailing s.cfg d a b.toNat with
          | some st => errorResponse st
          | none => ⟨.ok, ⟨false, false, false, false⟩, 0, (d.drop 5).take b.toNat⟩) }

/-- R149, R151: what the encoder builds has `FRAME_SIZE` bytes and decodes to its payload. -/
def Obligations.EncodedFramesDecodeToTheirPayload : Prop :=
  ∀ (c : Config) (ty : PacketType) (p : Bytes) (q : Byte), c.Legal → p.length ≤ c.frameSize - 6 →
    ∃ f, encodeFrame c ty p q = some f ∧ f.length = c.frameSize ∧ decodeFrame c f ty p.length = .ok p

/-- R132: the encoder fails exactly on a payload above the capacity. -/
def Obligations.EncoderRefusesOnlyOversize : Prop :=
  ∀ (c : Config) (ty : PacketType) (p : Bytes) (q : Byte), 6 ≤ c.frameSize →
    (encodeFrame c ty p q = none ↔ c.frameSize < p.length + 6)

/-- R86, R105, R150(a): the payload tail is never read: two frames with the same header, declared payload and checksum
byte get the same verdict and the same payload. -/
def Obligations.PayloadTailIsNeverRead : Prop :=
  ∀ (c : Config) (f g : Bytes) (et : PacketType) (el : Nat),
    g.take (5 + (f.getD 4 0).toNat) = f.take (5 + (f.getD 4 0).toNat) →
    g.getD (c.frameSize - 1) 0 = f.getD (c.frameSize - 1) 0 →
    validateReason c g = validateReason c f ∧ decodeFrame c g et el = decodeFrame c f et el

/-- R84, R104 and 93_implementation_defined.md U1: a frame that agrees with a valid frame in all but the `flags` byte,
and whose checksum byte covers the `flags` value it holds, is valid too and is decoded alike. -/
def Obligations.FlagsNeverCauseARejection : Prop :=
  ∀ (c : Config) (f g : Bytes) (et : PacketType) (el : Nat), c.Legal →
    f.length = c.frameSize → g.length = c.frameSize →
    (∀ i, i ≠ 3 → i ≠ c.frameSize - 1 → g.getD i 0 = f.getD i 0) →
    validate c f = true → g.getD (c.frameSize - 1) 0 = crc8 (g.take (5 + (g.getD 4 0).toNat)) →
    validate c g = true ∧ decodeFrame c g et el = decodeFrame c f et el

/-- R150(b), (c), (d): in a valid frame, any other checksum byte, any single flipped bit of bytes 0 to 3 and any single
flipped bit of the declared payload make `validate` false. -/
def Obligations.SingleBitFlipsAreCaught : Prop :=
  ∀ (c : Config) (f : Bytes), c.Legal → f.length = c.frameSize → validate c f = true →
    (∀ v : Byte, v ≠ f.getD (c.frameSize - 1) 0 → validate c (f.set (c.frameSize - 1) v) = false) ∧
    ∀ i k : Nat, k < 8 → (i < 4 ∨ (5 ≤ i ∧ i < 5 + (f.getD 4 0).toNat)) →
      validate c (f.set i (f.getD i 0 ^^^ (1#8 <<< k))) = false

/-- R150(e): a flipped bit of byte 4 may survive `validate` (the witness of 93_implementation_defined.md U7), and RECV's
expected length still rejects the frame. -/
def Obligations.AFlippedLengthByteMaySurvive : Prop :=
  ∃ f : Bytes, f.length = 32 ∧ validate (Config.ref .aircraft) f = true ∧
    validate (Config.ref .aircraft) (f.set 4 (f.getD 4 0 ^^^ 0x02)) = true ∧
    decodeFrame (Config.ref .aircraft) (f.set 4 (f.getD 4 0 ^^^ 0x02)) .command 18 = .error .lengthMismatch

/-! ## The session -/

/-- R190: INIT in every state. -/
def Obligations.InitStartsANewSession : Prop :=
  ∀ (a b : Byte) (t : U32) (d : Bytes) (s : State),
    exec (.init a b t d) s = .next (
      if d ≠ [] then { s with response := some (errorResponse .invalidParameter) }
      else { s with
        initialized := true, txSequence := 0, rxSequenceLast := 0, rxValid := false, lastRxTime := t
        consecutiveMissed := 0, rxSinceTick := false, linkActive := true, failsafeActive := false
        statSent := 0, statReceived := 0, statMissed := 0, statCrcFail := 0, statVerMismatch := 0
        statTypeMismatch := 0, statLenError := 0, linkQuality := 0
        fs := s.cfg.defaultFailsafe
        txbuf := List.replicate s.cfg.frameSize 0, rxbuf := List.replicate s.cfg.frameSize 0
        response := some ⟨.ok, ⟨false, false, false, false⟩, 0, []⟩ })

/-- R293: nothing of the old session survives an INIT or a hardware reset: two instances with the same parameters are in
the same state after either, whatever came before. -/
def Obligations.NothingSurvivesInitOrReset : Prop :=
  (∀ (a b : Byte) (t : U32) (s s' u u' : State), s.cfg = s'.cfg → exec (.init a b t []) s = .next u →
    exec (.init a b t []) s' = .next u' → u.onlyCore = u'.onlyCore) ∧
  ∀ (rest rest' : List Event) (s s' u u' : State), s.cfg = s'.cfg → s.pending = .hardwareReset :: rest →
    s'.pending = .hardwareReset :: rest' → step s = .next u → step s' = .next u' → u.onlyCore = u'.onlyCore

/-- R195, R196: SEND and its pseudo-commands in every state: the checks in order, the frame byte by byte, one transmit,
and what success and failure leave. -/
def Obligations.SendFollowsItsSteps : Prop :=
  ∀ (a b : Byte) (t : U32) (d : Bytes) (i : Instr) (s : State), sendForm a b t d i →
    exec i s = .next (
      if s.initialized = false then { s with response := some (errorResponse .notInitialized) }
      else if a ∉ [0x01, 0x02, 0x03, 0x04] then { s with response := some (errorResponse .invalidParameter) }
      else if s.cfg.frameSize - 6 < d.length then { s with response := some (errorResponse .packetTooLarge) }
      else
        let header := [s.cfg.protocolVersion, a, s.txSequence, 0x00, BitVec.ofNat 8 d.length]
        let frame := header ++ d ++ List.replicate (s.cfg.frameSize - 6 - d.length) 0x00 ++ [crc8 (header ++ d)]
        match s.xcvr.transmit with
        | .fail => { s with
            txbuf := frame, calls := s.calls ++ [.transmit frame]
            response := some (errorResponse .hardwareFailure) }
        | .ok => { s with
            txbuf := frame, calls := s.calls ++ [.transmit frame]
            txSequence := BitVec.ofNat 8 ((s.txSequence.toNat + 1) % 256)
            statSent := BitVec.ofNat 32 (satSum 32 s.statSent.toNat 1)
            response := some ⟨.ok, ⟨false, false, false, false⟩, 0, []⟩ })

/-- R197: `tx_sequence` and `stat_sent` move together, by one, and only on a SEND the transceiver reported as a success.
-/
def Obligations.SequenceAndSentCountMoveTogether : Prop :=
  ∀ (i : Instr) (s u : State), isInit i = false → exec i s = .next u →
    (u.txSequence = s.txSequence ∧ u.statSent = s.statSent) ∨
    (isSend i = true ∧ s.xcvr.transmit = .ok ∧ (∃ r, u.response = some r ∧ r.st = .ok) ∧
      u.txSequence.toNat = (s.txSequence.toNat + 1) % 256 ∧ u.statSent.toNat = satSum 32 s.statSent.toNat 1)

/-- R264 for RECV: `N`, then `initialized`, then the type; nothing else changes and the transceiver is not polled. -/
def Obligations.RecvChecksBeforeItPolls : Prop :=
  ∀ (a b : Byte) (t : U32) (d : Bytes) (i : Instr) (s : State), recvForm a b t d i →
    (d ≠ [] ∨ s.initialized = false ∨ a ∉ [0x01, 0x02, 0x03, 0x04]) →
    exec i s = .next { s with
      response := some (errorResponse (
        if d ≠ [] then .invalidParameter else if s.initialized = false then .notInitialized else .invalidParameter)) }

/-- R201 with R230: RECV when nothing is waiting: `NoData`, or the failsafe payload. -/
def Obligations.RecvWithNothingWaiting : Prop :=
  ∀ (ty : PacketType) (b : Byte) (t : U32) (i : Instr) (s : State), recvForm (typeCode ty) b t [] i →
    s.initialized = true → s.xcvr.available = false →
    exec i s = .next (
      if s.cfg.role = .aircraft ∧ ty = .command ∧ s.linkActive = false then
        { s with
          calls := s.calls ++ [.available], failsafeActive := true
          response := some ⟨.ok, ⟨true, false, false, !s.failsafeActive⟩, 0, s.fs⟩ }
      else { s with calls := s.calls ++ [.available], response := some (errorResponse .noData) })

/-- R202, R62 with R230: RECV when the transceiver fails: `HardwareFailure`, or the failsafe payload; `RXBUF` holds any
`FRAME_SIZE` bytes and nothing else moves. That the bytes are a free value and that `freeCount` counts it is the
model's choice (log 5). -/
def Obligations.RecvAfterAFailedReceive : Prop :=
  ∀ (ty : PacketType) (b : Byte) (t : U32) (i : Instr) (s : State), recvForm (typeCode ty) b t [] i →
    s.initialized = true → s.xcvr.available = true → s.xcvr.receive = .fail →
    ∃ (content : Bytes) (drawn : Nat), content.length = s.cfg.frameSize ∧
      exec i s = .next (
        if s.cfg.role = .aircraft ∧ ty = .command ∧ s.linkActive = false then
          { s with
            calls := s.calls ++ [.available, .receive], rxbuf := content, freeCount := drawn, failsafeActive := true
            response := some ⟨.ok, ⟨true, false, false, !s.failsafeActive⟩, 0, s.fs⟩ }
        else { s with
          calls := s.calls ++ [.available, .receive], rxbuf := content, freeCount := drawn
          response := some (errorResponse .hardwareFailure) })

/-- R207 with R230, R266: RECV of a frame that fails a test: exactly the counter of the first failing test moves by one,
and the answer is its status, or the failsafe payload. -/
def Obligations.RecvRejectsAFaultyFrame : Prop :=
  ∀ (ty : PacketType) (b : Byte) (t : U32) (i : Instr) (s : State) (f : Bytes) (st : Status),
    recvForm (typeCode ty) b t [] i → s.initialized = true → s.xcvr.available = true → s.xcvr.receive = .ok f →
    f.length = s.cfg.frameSize → firstFailing s.cfg f (typeCode ty) (expectedLen s.cfg ty) = some st →
    let count := fun (kind : Status) (x : U32) => if st = kind then BitVec.ofNat 32 (satSum 32 x.toNat 1) else x
    let rejected : State := { s with
      calls := s.calls ++ [.available, .receive], rxbuf := f
      statCrcFail := count .checksumFailure s.statCrcFail, statVerMismatch := count .versionMismatch s.statVerMismatch
      statTypeMismatch := count .typeMismatch s.statTypeMismatch
      statLenError := count .lengthMismatch s.statLenError }
    exec i s = .next (
      if s.cfg.role = .aircraft ∧ ty = .command ∧ s.linkActive = false then
        { rejected with
          failsafeActive := true, response := some ⟨.ok, ⟨true, false, false, !s.failsafeActive⟩, 0, s.fs⟩ }
      else { rejected with response := some (errorResponse st) })

/-- R206 with R160 to R168: RECV of a frame that passes every test: the tracker's new registers, the link and its event,
the counters, and the payload. -/
def Obligations.RecvAcceptsAGoodFrame : Prop :=
  ∀ (ty : PacketType) (b : Byte) (t : U32) (i : Instr) (s : State) (f : Bytes),
    recvForm (typeCode ty) b t [] i → s.initialized = true → s.xcvr.available = true → s.xcvr.receive = .ok f →
    f.length = s.cfg.frameSize → firstFailing s.cfg f (typeCode ty) (expectedLen s.cfg ty) = none →
    let gapped := ((f.getD 2 0).toNat + 255 - s.rxSequenceLast.toNat) % 256
    let missed := if s.rxValid = true ∧ s.linkActive = true then min gapped s.cfg.lossThreshold.toNat else 0
    let inARow :=
      if s.rxValid = true ∧ s.linkActive = true ∧ 0 < gapped then satSum 16 s.consecutiveMissed.toNat missed else 0
    let alive := decide (inARow < s.cfg.lossThreshold.toNat)
    exec i s = .next { s with
      calls := s.calls ++ [.available, .receive], rxbuf := f
      rxSequenceLast := f.getD 2 0, lastRxTime := t, rxValid := true, rxSinceTick := true
      consecutiveMissed := BitVec.ofNat 16 inARow
      statMissed := BitVec.ofNat 32 (satSum 32 s.statMissed.toNat missed)
      linkActive := alive, failsafeActive := false
      statReceived := BitVec.ofNat 32 (satSum 32 s.statReceived.toNat 1)
      response := some ⟨.ok, ⟨false, s.linkActive && !alive, !s.linkActive && alive, false⟩, 0,
        (f.drop 5).take (f.getD 4 0).toNat⟩ }

/-- R148: a payload that is returned has exactly the length expected of it. -/
def Obligations.PayloadsAreNeitherCutNorPadded : Prop :=
  (∀ (ty : PacketType) (b : Byte) (t : U32) (i : Instr) (s u : State) (r : Response), recvForm (typeCode ty) b t [] i →
    exec i s = .next u → u.response = some r → accepted r = true → r.q.length = expectedLen s.cfg ty) ∧
  ∀ (a b : Byte) (t : U32) (d : Bytes) (s u : State) (r : Response), exec (.decode a b t d) s = .next u →
    u.response = some r → r.q.length = if r.st = .ok then b.toNat else 0

/-- R210 with R44, R30: RDREG in every state: the content of an assigned number, `InvalidParameter` for the others. -/
def Obligations.RdregReadsTheRegisterTable : Prop :=
  ∀ (a b : Byte) (t : U32) (s : State),
    (∀ v, (a, v) ∈ registerTable s →
      exec (.rdreg a b t []) s =
        .next { s with response := some ⟨.ok, ⟨false, false, false, false⟩, BitVec.ofNat 32 v, []⟩ }) ∧
    (a ∉ (registerTable s).map (·.1) →
      exec (.rdreg a b t []) s = .next { s with response := some (errorResponse .invalidParameter) })

/-! ## The failsafe register and the mux -/

/-- R235: SETFS in every state. -/
def Obligations.SetfsStoresThePayload : Prop :=
  ∀ (a b : Byte) (t : U32) (d : Bytes) (s : State),
    exec (.setfs a b t d) s = .next (
      if d.length ≠ s.cfg.lenCommand then { s with response := some (errorResponse .invalidParameter) }
      else if s.initialized = false then { s with response := some (errorResponse .notInitialized) }
      else { s with fs := d, response := some ⟨.ok, ⟨false, false, false, false⟩, 0, []⟩ })

/-- R236: GETFS in every state. -/
def Obligations.GetfsReadsThePayload : Prop :=
  ∀ (a b : Byte) (t : U32) (d : Bytes) (s : State),
    exec (.getfs a b t d) s = .next { s with
      response := some (
        if d ≠ [] then errorResponse .invalidParameter
        else if s.initialized = false then errorResponse .notInitialized
        else ⟨.ok, ⟨false, false, false, false⟩, 0, s.fs⟩) }

/-- R231: a second substituting RECV that finds no data returns the same payload with `INFO = {FS}` and changes no
state. -/
def Obligations.RepeatedSubstitutionChangesNothing : Prop :=
  ∀ (b b' : Byte) (t t' : U32) (i j : Instr) (s u : State),
    recvForm 0x01 b t [] i → recvForm 0x01 b' t' [] j → s.initialized = true → s.cfg.role = .aircraft →
    s.linkActive = false → s.xcvr.available = false → exec i s = .next u →
    ∃ w, exec j u = .next w ∧ w.onlyCore = u.onlyCore ∧ w.response = some ⟨.ok, ⟨true, false, false, false⟩, 0, s.fs⟩

/-- R29: `failsafe_active` is set only by a substitution and cleared only by an accepted frame or INIT, and an accepted
frame always clears it. -/
def Obligations.FailsafeFlagFollowsTheMux : Prop :=
  ∀ (i : Instr) (s u : State), exec i s = .next u →
    (s.failsafeActive = false → u.failsafeActive = true →
      isRecv i = true ∧ s.cfg.role = .aircraft ∧ s.linkActive = false ∧
        u.response = some ⟨.ok, ⟨true, false, false, true⟩, 0, s.fs⟩) ∧
    (s.failsafeActive = true → u.failsafeActive = false →
      isInit i = true ∨ (isRecv i = true ∧ ∃ r, u.response = some r ∧ accepted r = true)) ∧
    (isRecv i = true → (∃ r, u.response = some r ∧ accepted r = true) → u.failsafeActive = false)

/-! ## The tracker -/

/-- R170 with R165 to R167, R176: UPDATE in every state. -/
def Obligations.UpdateFollowsItsSteps : Prop :=
  ∀ (a b : Byte) (t : U32) (d : Bytes) (s : State),
    exec (.update a b t d) s = .next (
      if d ≠ [] then { s with response := some (errorResponse .invalidParameter) }
      else if s.initialized = false then { s with response := some (errorResponse .notInitialized) }
      else
        let inARow := if s.rxSinceTick then s.consecutiveMissed.toNat else satSum 16 s.consecutiveMissed.toNat 1
        let inAll := if s.rxSinceTick then s.statMissed.toNat else satSum 32 s.statMissed.toNat 1
        let alive := decide (elapsed t s.lastRxTime ≤ s.cfg.linkTimeoutMs.toNat ∧ inARow < s.cfg.lossThreshold.toNat)
        { s with
          consecutiveMissed := if s.linkActive = false ∧ alive = true then 0 else BitVec.ofNat 16 inARow
          statMissed := BitVec.ofNat 32 inAll
          rxSinceTick := false, linkActive := alive
          linkQuality := BitVec.ofNat 8 (
            if s.statSent.toNat ≤ inAll then 0 else 100 * (s.statSent.toNat - inAll) / s.statSent.toNat)
          response := some ⟨.ok, ⟨false, s.linkActive && !alive, !s.linkActive && alive, false⟩, 0, []⟩ })

/-- R167: `EVAL_LINK` writes `link_active` and, on a transition to Active, `consecutive_missed`, and nothing else;
afterwards `link_active` is the formula on the registers it leaves; and it reports the two transitions. -/
def Obligations.EvalLinkFollowsTheTransitionRule : Prop :=
  ∀ (t : U32) (s : State), 1 ≤ s.cfg.lossThreshold.toNat →
    let u := (evalLink t s).2
    u = { s with linkActive := u.linkActive, consecutiveMissed := u.consecutiveMissed } ∧
    (u.linkActive = true ↔
      elapsed t u.lastRxTime ≤ u.cfg.linkTimeoutMs.toNat ∧ u.consecutiveMissed.toNat < u.cfg.lossThreshold.toNat) ∧
    u.consecutiveMissed = (if s.linkActive = false ∧ u.linkActive = true then 0 else s.consecutiveMissed) ∧
    (evalLink t s).1 = ⟨false, s.linkActive && !u.linkActive, !s.linkActive && u.linkActive, false⟩

/-- R161: the cap on the gap never changes whether the link is Active after the frame. -/
def Obligations.GapCapNeverChangesTheLink : Prop :=
  ∀ (seq : Byte) (t : U32) (s : State),
    linkFresh t (addMissed (missedOf s.cfg (gap seq s.rxSequenceLast)) s) =
      linkFresh t (addMissed (gap seq s.rxSequenceLast).toNat s)

/-- R176: `quality` is 0..100, is the formula, and is 100 exactly when something was sent and nothing missed. -/
def Obligations.QualityIsThePercentage : Prop :=
  ∀ sent missed : U32,
    (quality sent missed).toNat ≤ 100 ∧
    (sent = 0 → quality sent missed = 0) ∧
    (sent.toNat ≤ missed.toNat → quality sent missed = 0) ∧
    (missed.toNat < sent.toNat →
      sent.toNat * (quality sent missed).toNat ≤ 100 * (sent.toNat - missed.toNat) ∧
      100 * (sent.toNat - missed.toNat) < sent.toNat * ((quality sent missed).toNat + 1)) ∧
    (quality sent missed = 100 ↔ missed = 0 ∧ sent ≠ 0)

/-- R177: SEND, and a RECV that accepts no frame, leave every register of the tracker. -/
def Obligations.OnlyReceptionAndTicksMoveTheTracker : Prop :=
  ∀ (i : Instr) (s u : State) (r : Response), exec i s = .next u → u.response = some r →
    (isSend i = true ∨ (isRecv i = true ∧ accepted r = false)) →
    u.rxSequenceLast = s.rxSequenceLast ∧ u.lastRxTime = s.lastRxTime ∧ u.rxValid = s.rxValid ∧
    u.rxSinceTick = s.rxSinceTick ∧ u.consecutiveMissed = s.consecutiveMissed ∧ u.statMissed = s.statMissed ∧
    u.linkActive = s.linkActive ∧ u.statReceived = s.statReceived ∧ u.linkQuality = s.linkQuality

/-- R170, R233: on an Active link, as long as no tick crosses the timeout, UPDATEs with no accepted frame lose the link
exactly when the count reaches `LOSS_THRESHOLD`, and then an aircraft that asks for a command and finds none gets
the failsafe payload. -/
def Obligations.SilentTicksLoseTheLinkAtTheThreshold : Prop :=
  ∀ (s : State) (ts : List U32), s.initialized = true → s.linkActive = true → s.rxSinceTick = false →
    s.consecutiveMissed.toNat < s.cfg.lossThreshold.toNat →
    (∀ t ∈ ts, elapsed t s.lastRxTime ≤ s.cfg.linkTimeoutMs.toNat) →
    ((afterUpdates s ts).linkActive = true ↔
      s.consecutiveMissed.toNat + ts.length < s.cfg.lossThreshold.toNat) ∧
    (s.cfg.lossThreshold.toNat ≤ s.consecutiveMissed.toNat + ts.length → s.cfg.role = .aircraft →
      s.xcvr.available = false → ∀ (b : Byte) (t : U32), ∃ u r, exec (.recvcmd b t []) (afterUpdates s ts) = .next u ∧
        u.response = some r ∧ r.st = .ok ∧ r.info.fs = true ∧ r.q = s.fs)

/-! ## Rules over all commands -/

/-- R274: a response that is not `OK` carries no data, and the state it leaves is unchanged but for one rejection
counter and `RXBUF`, or but for `TXBUF`, or but for `RXBUF`. -/
def Obligations.ErrorsCarryNothingAndWriteNoSuccess : Prop :=
  ∀ (i : Instr) (s u : State) (r : Response), exec i s = .next u → u.response = some r → r.st ≠ .ok →
    r = errorResponse r.st ∧
    (u.onlyCore = s.onlyCore ∨
      (∃ f, u.onlyCore = { s.onlyCore with txbuf := f }) ∨ (∃ f, u.onlyCore = { s.onlyCore with rxbuf := f }) ∨
      (∃ f n, u.onlyCore = { s.onlyCore with rxbuf := f, statCrcFail := n }) ∨
      (∃ f n, u.onlyCore = { s.onlyCore with rxbuf := f, statVerMismatch := n }) ∨
      (∃ f n, u.onlyCore = { s.onlyCore with rxbuf := f, statTypeMismatch := n }) ∨
      ∃ f n, u.onlyCore = { s.onlyCore with rxbuf := f, statLenError := n })

/-- R252, R106: no command is ever answered `Timeout`, and no status is above 0x0A. -/
def Obligations.TimeoutIsNeverAnswered : Prop :=
  ∀ (i : Instr) (s u : State) (r : Response), exec i s = .next u → u.response = some r →
    r.st ≠ .timeout ∧ (statusCode r.st).toNat ≤ 0x0A

/-- R97: what each bit of `INFO` says, who sets it, and where it lies. -/
def Obligations.EventBitsSayWhatChanged : Prop :=
  (∀ n : Info, (infoByte n).toNat = n.fs.toNat + 2 * n.lostEv.toNat + 4 * n.upEv.toNat + 8 * n.fsEv.toNat) ∧
  ∀ (i : Instr) (s u : State) (r : Response), exec i s = .next u → u.response = some r →
    (isRecv i = false → isUpdate i = false → r.info = ⟨false, false, false, false⟩) ∧
    (isRecv i = true ∨ isUpdate i = true →
      r.info.lostEv = (s.linkActive && !u.linkActive) ∧ r.info.upEv = (!s.linkActive && u.linkActive) ∧
      r.info.fsEv = (!s.failsafeActive && u.failsafeActive)) ∧
    (r.info.fs = true → isRecv i = true ∧ r.st = .ok ∧ r.q = s.fs) ∧
    ¬(r.info.lostEv = true ∧ r.info.upEv = true)

/-- R71, R284 to R286: the calls a command makes of the transceiver, in order: SEND at most one transmit, of `TXBUF` as
written; RECV one poll, and a receive only after it answered true; no other command any. The field `calls`, where
they are seen, is the model's own (log 6). -/
def Obligations.TransceiverCallsAreOrdered : Prop :=
  ∀ (i : Instr) (s u : State), exec i s = .next u →
    ∃ made, u.calls = s.calls ++ made ∧
      (made = [] ∨ (isSend i = true ∧ made = [.transmit u.txbuf]) ∨
        (isRecv i = true ∧ made = [.available] ∧ s.xcvr.available = false) ∨
        (isRecv i = true ∧ made = [.available, .receive] ∧ s.xcvr.available = true))

/-- R63, R67: CRC8, ENCODE, VALIDATE, DECODE, RDREG and GETFS change nothing but the response, and a second issue gives
the same. -/
def Obligations.ReadingCommandsAreIdempotent : Prop :=
  ∀ (a b : Byte) (t : U32) (d : Bytes) (i : Instr) (s u : State),
    (i = .crc8 a b t d ∨ i = .encode a b t d ∨ i = .validate a b t d ∨ i = .decode a b t d ∨ i = .rdreg a b t d ∨
      i = .getfs a b t d) → exec i s = .next u →
    u = { s with response := u.response } ∧ exec i u = .next u

/-- 10_state.md section 11 with R31: which commands write which state; everything else keeps its value. No command
writes a parameter (R6; that they stand in the state is the model's choice, log 1). The clauses on `pending`, `xcvr`
and `freeCount` are about the model's own fields (log 2, 3, 5), of no rule. -/
def Obligations.OnlyTheNamedCommandsWrite : Prop :=
  ∀ (i : Instr) (s u : State), exec i s = .next u →
    (u.cfg = s.cfg ∧ u.pending = s.pending ∧ u.xcvr = s.xcvr) ∧
    (isInit i = false → u.initialized = s.initialized) ∧
    (isInit i = false → isSend i = false →
      u.txSequence = s.txSequence ∧ u.statSent = s.statSent ∧ u.txbuf = s.txbuf) ∧
    (isInit i = false → isRecv i = false →
      u.rxSequenceLast = s.rxSequenceLast ∧ u.lastRxTime = s.lastRxTime ∧ u.rxValid = s.rxValid ∧
      u.failsafeActive = s.failsafeActive ∧ u.statReceived = s.statReceived ∧ u.statCrcFail = s.statCrcFail ∧
      u.statVerMismatch = s.statVerMismatch ∧ u.statTypeMismatch = s.statTypeMismatch ∧
      u.statLenError = s.statLenError ∧ u.rxbuf = s.rxbuf ∧ u.freeCount = s.freeCount) ∧
    (isInit i = false → isRecv i = false → isUpdate i = false →
      u.rxSinceTick = s.rxSinceTick ∧ u.consecutiveMissed = s.consecutiveMissed ∧ u.statMissed = s.statMissed ∧
      u.linkActive = s.linkActive) ∧
    (isInit i = false → isUpdate i = false → u.linkQuality = s.linkQuality) ∧
    (isInit i = false → isSetfs i = false → u.fs = s.fs)

/-- R32 to R38 and the opening of 10_state.md section 5: no command but INIT ever decreases a statistics counter. -/
def Obligations.CountersNeverDecrease : Prop :=
  ∀ (i : Instr) (s u : State), isInit i = false → exec i s = .next u →
    s.statSent.toNat ≤ u.statSent.toNat ∧ s.statReceived.toNat ≤ u.statReceived.toNat ∧
    s.statMissed.toNat ≤ u.statMissed.toNat ∧ s.statCrcFail.toNat ≤ u.statCrcFail.toNat ∧
    s.statVerMismatch.toNat ≤ u.statVerMismatch.toNat ∧ s.statTypeMismatch.toNat ≤ u.statTypeMismatch.toNat ∧
    s.statLenError.toNat ≤ u.statLenError.toNat

/-- R6: no step changes a parameter. That they stand in the state is the model's choice (log 1). -/
def Obligations.ParametersNeverChange : Prop :=
  ∀ s u : State, step s = .next u → u.cfg = s.cfg

/-! ## The invariant -/

/-- The invariant `State.Inv` holds after hardware reset of every legal instance, and so at `State.reset`. The
configuration of `State.reset` is the model's choice (log 1, 11). -/
def Obligations.InvariantHoldsAfterReset : Prop :=
  (∀ c : Config, c.Legal → (State.resetWith c).Inv) ∧ State.reset.Inv

/-- Every step keeps the invariant `State.Inv`, from every state that has it: the buffers keep their sizes and `TXBUF` a
valid frame, an Active link is below the threshold, the counters agree with the registers they follow, and before
INIT the state is the reset state. -/
def Obligations.EveryStepKeepsTheInvariant : Prop :=
  ∀ s u : State, s.Inv → step s = .next u → u.Inv
end

