-- ==== Sys2Proof/Laws/State.lean ====
section
/-!
SUPPORT. What each update of the state does to each field: one lemma per field per update, true by definition.
-/

namespace Sys2Proof.Machine

/-! ## respond -/

@[simp] theorem respond_cfg (st : Status) (info : Info) (v : U32) (q : Bytes) (s : State) :
    (respond st info v q s).cfg = s.cfg := rfl
@[simp] theorem respond_initialized (st : Status) (info : Info) (v : U32) (q : Bytes) (s : State) :
    (respond st info v q s).initialized = s.initialized := rfl
@[simp] theorem respond_txSequence (st : Status) (info : Info) (v : U32) (q : Bytes) (s : State) :
    (respond st info v q s).txSequence = s.txSequence := rfl
@[simp] theorem respond_rxSequenceLast (st : Status) (info : Info) (v : U32) (q : Bytes) (s : State) :
    (respond st info v q s).rxSequenceLast = s.rxSequenceLast := rfl
@[simp] theorem respond_rxValid (st : Status) (info : Info) (v : U32) (q : Bytes) (s : State) :
    (respond st info v q s).rxValid = s.rxValid := rfl
@[simp] theorem respond_lastRxTime (st : Status) (info : Info) (v : U32) (q : Bytes) (s : State) :
    (respond st info v q s).lastRxTime = s.lastRxTime := rfl
@[simp] theorem respond_consecutiveMissed (st : Status) (info : Info) (v : U32) (q : Bytes) (s : State) :
    (respond st info v q s).consecutiveMissed = s.consecutiveMissed := rfl
@[simp] theorem respond_rxSinceTick (st : Status) (info : Info) (v : U32) (q : Bytes) (s : State) :
    (respond st info v q s).rxSinceTick = s.rxSinceTick := rfl
@[simp] theorem respond_linkActive (st : Status) (info : Info) (v : U32) (q : Bytes) (s : State) :
    (respond st info v q s).linkActive = s.linkActive := rfl
@[simp] theorem respond_failsafeActive (st : Status) (info : Info) (v : U32) (q : Bytes) (s : State) :
    (respond st info v q s).failsafeActive = s.failsafeActive := rfl
@[simp] theorem respond_statSent (st : Status) (info : Info) (v : U32) (q : Bytes) (s : State) :
    (respond st info v q s).statSent = s.statSent := rfl
@[simp] theorem respond_statReceived (st : Status) (info : Info) (v : U32) (q : Bytes) (s : State) :
    (respond st info v q s).statReceived = s.statReceived := rfl
@[simp] theorem respond_statMissed (st : Status) (info : Info) (v : U32) (q : Bytes) (s : State) :
    (respond st info v q s).statMissed = s.statMissed := rfl
@[simp] theorem respond_statCrcFail (st : Status) (info : Info) (v : U32) (q : Bytes) (s : State) :
    (respond st info v q s).statCrcFail = s.statCrcFail := rfl
@[simp] theorem respond_statVerMismatch (st : Status) (info : Info) (v : U32) (q : Bytes) (s : State) :
    (respond st info v q s).statVerMismatch = s.statVerMismatch := rfl
@[simp] theorem respond_statTypeMismatch (st : Status) (info : Info) (v : U32) (q : Bytes) (s : State) :
    (respond st info v q s).statTypeMismatch = s.statTypeMismatch := rfl
@[simp] theorem respond_statLenError (st : Status) (info : Info) (v : U32) (q : Bytes) (s : State) :
    (respond st info v q s).statLenError = s.statLenError := rfl
@[simp] theorem respond_linkQuality (st : Status) (info : Info) (v : U32) (q : Bytes) (s : State) :
    (respond st info v q s).linkQuality = s.linkQuality := rfl
@[simp] theorem respond_fs (st : Status) (info : Info) (v : U32) (q : Bytes) (s : State) :
    (respond st info v q s).fs = s.fs := rfl
@[simp] theorem respond_txbuf (st : Status) (info : Info) (v : U32) (q : Bytes) (s : State) :
    (respond st info v q s).txbuf = s.txbuf := rfl
@[simp] theorem respond_rxbuf (st : Status) (info : Info) (v : U32) (q : Bytes) (s : State) :
    (respond st info v q s).rxbuf = s.rxbuf := rfl
@[simp] theorem respond_pending (st : Status) (info : Info) (v : U32) (q : Bytes) (s : State) :
    (respond st info v q s).pending = s.pending := rfl
@[simp] theorem respond_xcvr (st : Status) (info : Info) (v : U32) (q : Bytes) (s : State) :
    (respond st info v q s).xcvr = s.xcvr := rfl
@[simp] theorem respond_calls (st : Status) (info : Info) (v : U32) (q : Bytes) (s : State) :
    (respond st info v q s).calls = s.calls := rfl
@[simp] theorem respond_response (st : Status) (info : Info) (v : U32) (q : Bytes) (s : State) :
    (respond st info v q s).response = some ⟨st, info, v, q⟩ := rfl
@[simp] theorem respond_freeCount (st : Status) (info : Info) (v : U32) (q : Bytes) (s : State) :
    (respond st info v q s).freeCount = s.freeCount := rfl

/-! ## storeTx -/

@[simp] theorem storeTx_cfg (f : Bytes) (s : State) : (storeTx f s).cfg = s.cfg := rfl
@[simp] theorem storeTx_initialized (f : Bytes) (s : State) : (storeTx f s).initialized = s.initialized := rfl
@[simp] theorem storeTx_txSequence (f : Bytes) (s : State) : (storeTx f s).txSequence = s.txSequence := rfl
@[simp] theorem storeTx_rxSequenceLast (f : Bytes) (s : State) : (storeTx f s).rxSequenceLast = s.rxSequenceLast := rfl
@[simp] theorem storeTx_rxValid (f : Bytes) (s : State) : (storeTx f s).rxValid = s.rxValid := rfl
@[simp] theorem storeTx_lastRxTime (f : Bytes) (s : State) : (storeTx f s).lastRxTime = s.lastRxTime := rfl
@[simp] theorem storeTx_consecutiveMissed (f : Bytes) (s : State) :
    (storeTx f s).consecutiveMissed = s.consecutiveMissed := rfl
@[simp] theorem storeTx_rxSinceTick (f : Bytes) (s : State) : (storeTx f s).rxSinceTick = s.rxSinceTick := rfl
@[simp] theorem storeTx_linkActive (f : Bytes) (s : State) : (storeTx f s).linkActive = s.linkActive := rfl
@[simp] theorem storeTx_failsafeActive (f : Bytes) (s : State) : (storeTx f s).failsafeActive = s.failsafeActive := rfl
@[simp] theorem storeTx_statSent (f : Bytes) (s : State) : (storeTx f s).statSent = s.statSent := rfl
@[simp] theorem storeTx_statReceived (f : Bytes) (s : State) : (storeTx f s).statReceived = s.statReceived := rfl
@[simp] theorem storeTx_statMissed (f : Bytes) (s : State) : (storeTx f s).statMissed = s.statMissed := rfl
@[simp] theorem storeTx_statCrcFail (f : Bytes) (s : State) : (storeTx f s).statCrcFail = s.statCrcFail := rfl
@[simp] theorem storeTx_statVerMismatch (f : Bytes) (s : State) :
    (storeTx f s).statVerMismatch = s.statVerMismatch := rfl
@[simp] theorem storeTx_statTypeMismatch (f : Bytes) (s : State) :
    (storeTx f s).statTypeMismatch = s.statTypeMismatch := rfl
@[simp] theorem storeTx_statLenError (f : Bytes) (s : State) : (storeTx f s).statLenError = s.statLenError := rfl
@[simp] theorem storeTx_linkQuality (f : Bytes) (s : State) : (storeTx f s).linkQuality = s.linkQuality := rfl
@[simp] theorem storeTx_fs (f : Bytes) (s : State) : (storeTx f s).fs = s.fs := rfl
@[simp] theorem storeTx_txbuf (f : Bytes) (s : State) : (storeTx f s).txbuf = f := rfl
@[simp] theorem storeTx_rxbuf (f : Bytes) (s : State) : (storeTx f s).rxbuf = s.rxbuf := rfl
@[simp] theorem storeTx_pending (f : Bytes) (s : State) : (storeTx f s).pending = s.pending := rfl
@[simp] theorem storeTx_xcvr (f : Bytes) (s : State) : (storeTx f s).xcvr = s.xcvr := rfl
@[simp] theorem storeTx_calls (f : Bytes) (s : State) : (storeTx f s).calls = s.calls := rfl
@[simp] theorem storeTx_response (f : Bytes) (s : State) : (storeTx f s).response = s.response := rfl
@[simp] theorem storeTx_freeCount (f : Bytes) (s : State) : (storeTx f s).freeCount = s.freeCount := rfl

/-! ## storeRx -/

@[simp] theorem storeRx_cfg (f : Bytes) (s : State) : (storeRx f s).cfg = s.cfg := rfl
@[simp] theorem storeRx_initialized (f : Bytes) (s : State) : (storeRx f s).initialized = s.initialized := rfl
@[simp] theorem storeRx_txSequence (f : Bytes) (s : State) : (storeRx f s).txSequence = s.txSequence := rfl
@[simp] theorem storeRx_rxSequenceLast (f : Bytes) (s : State) : (storeRx f s).rxSequenceLast = s.rxSequenceLast := rfl
@[simp] theorem storeRx_rxValid (f : Bytes) (s : State) : (storeRx f s).rxValid = s.rxValid := rfl
@[simp] theorem storeRx_lastRxTime (f : Bytes) (s : State) : (storeRx f s).lastRxTime = s.lastRxTime := rfl
@[simp] theorem storeRx_consecutiveMissed (f : Bytes) (s : State) :
    (storeRx f s).consecutiveMissed = s.consecutiveMissed := rfl
@[simp] theorem storeRx_rxSinceTick (f : Bytes) (s : State) : (storeRx f s).rxSinceTick = s.rxSinceTick := rfl
@[simp] theorem storeRx_linkActive (f : Bytes) (s : State) : (storeRx f s).linkActive = s.linkActive := rfl
@[simp] theorem storeRx_failsafeActive (f : Bytes) (s : State) : (storeRx f s).failsafeActive = s.failsafeActive := rfl
@[simp] theorem storeRx_statSent (f : Bytes) (s : State) : (storeRx f s).statSent = s.statSent := rfl
@[simp] theorem storeRx_statReceived (f : Bytes) (s : State) : (storeRx f s).statReceived = s.statReceived := rfl
@[simp] theorem storeRx_statMissed (f : Bytes) (s : State) : (storeRx f s).statMissed = s.statMissed := rfl
@[simp] theorem storeRx_statCrcFail (f : Bytes) (s : State) : (storeRx f s).statCrcFail = s.statCrcFail := rfl
@[simp] theorem storeRx_statVerMismatch (f : Bytes) (s : State) :
    (storeRx f s).statVerMismatch = s.statVerMismatch := rfl
@[simp] theorem storeRx_statTypeMismatch (f : Bytes) (s : State) :
    (storeRx f s).statTypeMismatch = s.statTypeMismatch := rfl
@[simp] theorem storeRx_statLenError (f : Bytes) (s : State) : (storeRx f s).statLenError = s.statLenError := rfl
@[simp] theorem storeRx_linkQuality (f : Bytes) (s : State) : (storeRx f s).linkQuality = s.linkQuality := rfl
@[simp] theorem storeRx_fs (f : Bytes) (s : State) : (storeRx f s).fs = s.fs := rfl
@[simp] theorem storeRx_txbuf (f : Bytes) (s : State) : (storeRx f s).txbuf = s.txbuf := rfl
@[simp] theorem storeRx_rxbuf (f : Bytes) (s : State) : (storeRx f s).rxbuf = f := rfl
@[simp] theorem storeRx_pending (f : Bytes) (s : State) : (storeRx f s).pending = s.pending := rfl
@[simp] theorem storeRx_xcvr (f : Bytes) (s : State) : (storeRx f s).xcvr = s.xcvr := rfl
@[simp] theorem storeRx_calls (f : Bytes) (s : State) : (storeRx f s).calls = s.calls := rfl
@[simp] theorem storeRx_response (f : Bytes) (s : State) : (storeRx f s).response = s.response := rfl
@[simp] theorem storeRx_freeCount (f : Bytes) (s : State) : (storeRx f s).freeCount = s.freeCount := rfl

/-! ## storeFs -/

@[simp] theorem storeFs_cfg (p : Bytes) (s : State) : (storeFs p s).cfg = s.cfg := rfl
@[simp] theorem storeFs_initialized (p : Bytes) (s : State) : (storeFs p s).initialized = s.initialized := rfl
@[simp] theorem storeFs_txSequence (p : Bytes) (s : State) : (storeFs p s).txSequence = s.txSequence := rfl
@[simp] theorem storeFs_rxSequenceLast (p : Bytes) (s : State) : (storeFs p s).rxSequenceLast = s.rxSequenceLast := rfl
@[simp] theorem storeFs_rxValid (p : Bytes) (s : State) : (storeFs p s).rxValid = s.rxValid := rfl
@[simp] theorem storeFs_lastRxTime (p : Bytes) (s : State) : (storeFs p s).lastRxTime = s.lastRxTime := rfl
@[simp] theorem storeFs_consecutiveMissed (p : Bytes) (s : State) :
    (storeFs p s).consecutiveMissed = s.consecutiveMissed := rfl
@[simp] theorem storeFs_rxSinceTick (p : Bytes) (s : State) : (storeFs p s).rxSinceTick = s.rxSinceTick := rfl
@[simp] theorem storeFs_linkActive (p : Bytes) (s : State) : (storeFs p s).linkActive = s.linkActive := rfl
@[simp] theorem storeFs_failsafeActive (p : Bytes) (s : State) : (storeFs p s).failsafeActive = s.failsafeActive := rfl
@[simp] theorem storeFs_statSent (p : Bytes) (s : State) : (storeFs p s).statSent = s.statSent := rfl
@[simp] theorem storeFs_statReceived (p : Bytes) (s : State) : (storeFs p s).statReceived = s.statReceived := rfl
@[simp] theorem storeFs_statMissed (p : Bytes) (s : State) : (storeFs p s).statMissed = s.statMissed := rfl
@[simp] theorem storeFs_statCrcFail (p : Bytes) (s : State) : (storeFs p s).statCrcFail = s.statCrcFail := rfl
@[simp] theorem storeFs_statVerMismatch (p : Bytes) (s : State) :
    (storeFs p s).statVerMismatch = s.statVerMismatch := rfl
@[simp] theorem storeFs_statTypeMismatch (p : Bytes) (s : State) :
    (storeFs p s).statTypeMismatch = s.statTypeMismatch := rfl
@[simp] theorem storeFs_statLenError (p : Bytes) (s : State) : (storeFs p s).statLenError = s.statLenError := rfl
@[simp] theorem storeFs_linkQuality (p : Bytes) (s : State) : (storeFs p s).linkQuality = s.linkQuality := rfl
@[simp] theorem storeFs_fs (p : Bytes) (s : State) : (storeFs p s).fs = p := rfl
@[simp] theorem storeFs_txbuf (p : Bytes) (s : State) : (storeFs p s).txbuf = s.txbuf := rfl
@[simp] theorem storeFs_rxbuf (p : Bytes) (s : State) : (storeFs p s).rxbuf = s.rxbuf := rfl
@[simp] theorem storeFs_pending (p : Bytes) (s : State) : (storeFs p s).pending = s.pending := rfl
@[simp] theorem storeFs_xcvr (p : Bytes) (s : State) : (storeFs p s).xcvr = s.xcvr := rfl
@[simp] theorem storeFs_calls (p : Bytes) (s : State) : (storeFs p s).calls = s.calls := rfl
@[simp] theorem storeFs_response (p : Bytes) (s : State) : (storeFs p s).response = s.response := rfl
@[simp] theorem storeFs_freeCount (p : Bytes) (s : State) : (storeFs p s).freeCount = s.freeCount := rfl

/-! ## loseRx -/

@[simp] theorem loseRx_cfg (s : State) : (loseRx s).cfg = s.cfg := rfl
@[simp] theorem loseRx_initialized (s : State) : (loseRx s).initialized = s.initialized := rfl
@[simp] theorem loseRx_txSequence (s : State) : (loseRx s).txSequence = s.txSequence := rfl
@[simp] theorem loseRx_rxSequenceLast (s : State) : (loseRx s).rxSequenceLast = s.rxSequenceLast := rfl
@[simp] theorem loseRx_rxValid (s : State) : (loseRx s).rxValid = s.rxValid := rfl
@[simp] theorem loseRx_lastRxTime (s : State) : (loseRx s).lastRxTime = s.lastRxTime := rfl
@[simp] theorem loseRx_consecutiveMissed (s : State) : (loseRx s).consecutiveMissed = s.consecutiveMissed := rfl
@[simp] theorem loseRx_rxSinceTick (s : State) : (loseRx s).rxSinceTick = s.rxSinceTick := rfl
@[simp] theorem loseRx_linkActive (s : State) : (loseRx s).linkActive = s.linkActive := rfl
@[simp] theorem loseRx_failsafeActive (s : State) : (loseRx s).failsafeActive = s.failsafeActive := rfl
@[simp] theorem loseRx_statSent (s : State) : (loseRx s).statSent = s.statSent := rfl
@[simp] theorem loseRx_statReceived (s : State) : (loseRx s).statReceived = s.statReceived := rfl
@[simp] theorem loseRx_statMissed (s : State) : (loseRx s).statMissed = s.statMissed := rfl
@[simp] theorem loseRx_statCrcFail (s : State) : (loseRx s).statCrcFail = s.statCrcFail := rfl
@[simp] theorem loseRx_statVerMismatch (s : State) : (loseRx s).statVerMismatch = s.statVerMismatch := rfl
@[simp] theorem loseRx_statTypeMismatch (s : State) : (loseRx s).statTypeMismatch = s.statTypeMismatch := rfl
@[simp] theorem loseRx_statLenError (s : State) : (loseRx s).statLenError = s.statLenError := rfl
@[simp] theorem loseRx_linkQuality (s : State) : (loseRx s).linkQuality = s.linkQuality := rfl
@[simp] theorem loseRx_fs (s : State) : (loseRx s).fs = s.fs := rfl
@[simp] theorem loseRx_txbuf (s : State) : (loseRx s).txbuf = s.txbuf := rfl
@[simp] theorem loseRx_rxbuf (s : State) :
    (loseRx s).rxbuf = (List.range s.cfg.frameSize).map (Config.rxbufAfterFail s.freeCount) := rfl
@[simp] theorem loseRx_pending (s : State) : (loseRx s).pending = s.pending := rfl
@[simp] theorem loseRx_xcvr (s : State) : (loseRx s).xcvr = s.xcvr := rfl
@[simp] theorem loseRx_calls (s : State) : (loseRx s).calls = s.calls := rfl
@[simp] theorem loseRx_response (s : State) : (loseRx s).response = s.response := rfl
@[simp] theorem loseRx_freeCount (s : State) : (loseRx s).freeCount = s.freeCount + 1 := rfl

/-! ## call -/

@[simp] theorem call_cfg (k : XcvrCall) (s : State) : (call k s).cfg = s.cfg := rfl
@[simp] theorem call_initialized (k : XcvrCall) (s : State) : (call k s).initialized = s.initialized := rfl
@[simp] theorem call_txSequence (k : XcvrCall) (s : State) : (call k s).txSequence = s.txSequence := rfl
@[simp] theorem call_rxSequenceLast (k : XcvrCall) (s : State) : (call k s).rxSequenceLast = s.rxSequenceLast := rfl
@[simp] theorem call_rxValid (k : XcvrCall) (s : State) : (call k s).rxValid = s.rxValid := rfl
@[simp] theorem call_lastRxTime (k : XcvrCall) (s : State) : (call k s).lastRxTime = s.lastRxTime := rfl
@[simp] theorem call_consecutiveMissed (k : XcvrCall) (s : State) :
    (call k s).consecutiveMissed = s.consecutiveMissed := rfl
@[simp] theorem call_rxSinceTick (k : XcvrCall) (s : State) : (call k s).rxSinceTick = s.rxSinceTick := rfl
@[simp] theorem call_linkActive (k : XcvrCall) (s : State) : (call k s).linkActive = s.linkActive := rfl
@[simp] theorem call_failsafeActive (k : XcvrCall) (s : State) : (call k s).failsafeActive = s.failsafeActive := rfl
@[simp] theorem call_statSent (k : XcvrCall) (s : State) : (call k s).statSent = s.statSent := rfl
@[simp] theorem call_statReceived (k : XcvrCall) (s : State) : (call k s).statReceived = s.statReceived := rfl
@[simp] theorem call_statMissed (k : XcvrCall) (s : State) : (call k s).statMissed = s.statMissed := rfl
@[simp] theorem call_statCrcFail (k : XcvrCall) (s : State) : (call k s).statCrcFail = s.statCrcFail := rfl
@[simp] theorem call_statVerMismatch (k : XcvrCall) (s : State) : (call k s).statVerMismatch = s.statVerMismatch := rfl
@[simp] theorem call_statTypeMismatch (k : XcvrCall) (s : State) :
    (call k s).statTypeMismatch = s.statTypeMismatch := rfl
@[simp] theorem call_statLenError (k : XcvrCall) (s : State) : (call k s).statLenError = s.statLenError := rfl
@[simp] theorem call_linkQuality (k : XcvrCall) (s : State) : (call k s).linkQuality = s.linkQuality := rfl
@[simp] theorem call_fs (k : XcvrCall) (s : State) : (call k s).fs = s.fs := rfl
@[simp] theorem call_txbuf (k : XcvrCall) (s : State) : (call k s).txbuf = s.txbuf := rfl
@[simp] theorem call_rxbuf (k : XcvrCall) (s : State) : (call k s).rxbuf = s.rxbuf := rfl
@[simp] theorem call_pending (k : XcvrCall) (s : State) : (call k s).pending = s.pending := rfl
@[simp] theorem call_xcvr (k : XcvrCall) (s : State) : (call k s).xcvr = s.xcvr := rfl
@[simp] theorem call_calls (k : XcvrCall) (s : State) : (call k s).calls = s.calls ++ [k] := rfl
@[simp] theorem call_response (k : XcvrCall) (s : State) : (call k s).response = s.response := rfl
@[simp] theorem call_freeCount (k : XcvrCall) (s : State) : (call k s).freeCount = s.freeCount := rfl

/-! ## accept -/

@[simp] theorem accept_cfg (x : XcvrAnswers) (rest : List Event) (s : State) : (accept x rest s).cfg = s.cfg := rfl
@[simp] theorem accept_initialized (x : XcvrAnswers) (rest : List Event) (s : State) :
    (accept x rest s).initialized = s.initialized := rfl
@[simp] theorem accept_txSequence (x : XcvrAnswers) (rest : List Event) (s : State) :
    (accept x rest s).txSequence = s.txSequence := rfl
@[simp] theorem accept_rxSequenceLast (x : XcvrAnswers) (rest : List Event) (s : State) :
    (accept x rest s).rxSequenceLast = s.rxSequenceLast := rfl
@[simp] theorem accept_rxValid (x : XcvrAnswers) (rest : List Event) (s : State) :
    (accept x rest s).rxValid = s.rxValid := rfl
@[simp] theorem accept_lastRxTime (x : XcvrAnswers) (rest : List Event) (s : State) :
    (accept x rest s).lastRxTime = s.lastRxTime := rfl
@[simp] theorem accept_consecutiveMissed (x : XcvrAnswers) (rest : List Event) (s : State) :
    (accept x rest s).consecutiveMissed = s.consecutiveMissed := rfl
@[simp] theorem accept_rxSinceTick (x : XcvrAnswers) (rest : List Event) (s : State) :
    (accept x rest s).rxSinceTick = s.rxSinceTick := rfl
@[simp] theorem accept_linkActive (x : XcvrAnswers) (rest : List Event) (s : State) :
    (accept x rest s).linkActive = s.linkActive := rfl
@[simp] theorem accept_failsafeActive (x : XcvrAnswers) (rest : List Event) (s : State) :
    (accept x rest s).failsafeActive = s.failsafeActive := rfl
@[simp] theorem accept_statSent (x : XcvrAnswers) (rest : List Event) (s : State) :
    (accept x rest s).statSent = s.statSent := rfl
@[simp] theorem accept_statReceived (x : XcvrAnswers) (rest : List Event) (s : State) :
    (accept x rest s).statReceived = s.statReceived := rfl
@[simp] theorem accept_statMissed (x : XcvrAnswers) (rest : List Event) (s : State) :
    (accept x rest s).statMissed = s.statMissed := rfl
@[simp] theorem accept_statCrcFail (x : XcvrAnswers) (rest : List Event) (s : State) :
    (accept x rest s).statCrcFail = s.statCrcFail := rfl
@[simp] theorem accept_statVerMismatch (x : XcvrAnswers) (rest : List Event) (s : State) :
    (accept x rest s).statVerMismatch = s.statVerMismatch := rfl
@[simp] theorem accept_statTypeMismatch (x : XcvrAnswers) (rest : List Event) (s : State) :
    (accept x rest s).statTypeMismatch = s.statTypeMismatch := rfl
@[simp] theorem accept_statLenError (x : XcvrAnswers) (rest : List Event) (s : State) :
    (accept x rest s).statLenError = s.statLenError := rfl
@[simp] theorem accept_linkQuality (x : XcvrAnswers) (rest : List Event) (s : State) :
    (accept x rest s).linkQuality = s.linkQuality := rfl
@[simp] theorem accept_fs (x : XcvrAnswers) (rest : List Event) (s : State) : (accept x rest s).fs = s.fs := rfl
@[simp] theorem accept_txbuf (x : XcvrAnswers) (rest : List Event) (s : State) :
    (accept x rest s).txbuf = s.txbuf := rfl
@[simp] theorem accept_rxbuf (x : XcvrAnswers) (rest : List Event) (s : State) :
    (accept x rest s).rxbuf = s.rxbuf := rfl
@[simp] theorem accept_pending (x : XcvrAnswers) (rest : List Event) (s : State) :
    (accept x rest s).pending = rest := rfl
@[simp] theorem accept_xcvr (x : XcvrAnswers) (rest : List Event) (s : State) : (accept x rest s).xcvr = x := rfl
@[simp] theorem accept_calls (x : XcvrAnswers) (rest : List Event) (s : State) : (accept x rest s).calls = [] := rfl
@[simp] theorem accept_response (x : XcvrAnswers) (rest : List Event) (s : State) :
    (accept x rest s).response = none := rfl
@[simp] theorem accept_freeCount (x : XcvrAnswers) (rest : List Event) (s : State) :
    (accept x rest s).freeCount = s.freeCount := rfl

/-! ## addMissed -/

@[simp] theorem addMissed_cfg (m : Nat) (s : State) : (addMissed m s).cfg = s.cfg := rfl
@[simp] theorem addMissed_initialized (m : Nat) (s : State) : (addMissed m s).initialized = s.initialized := rfl
@[simp] theorem addMissed_txSequence (m : Nat) (s : State) : (addMissed m s).txSequence = s.txSequence := rfl
@[simp] theorem addMissed_rxSequenceLast (m : Nat) (s : State) :
    (addMissed m s).rxSequenceLast = s.rxSequenceLast := rfl
@[simp] theorem addMissed_rxValid (m : Nat) (s : State) : (addMissed m s).rxValid = s.rxValid := rfl
@[simp] theorem addMissed_lastRxTime (m : Nat) (s : State) : (addMissed m s).lastRxTime = s.lastRxTime := rfl
@[simp] theorem addMissed_consecutiveMissed (m : Nat) (s : State) :
    (addMissed m s).consecutiveMissed = satAdd16 s.consecutiveMissed m := rfl
@[simp] theorem addMissed_rxSinceTick (m : Nat) (s : State) : (addMissed m s).rxSinceTick = s.rxSinceTick := rfl
@[simp] theorem addMissed_linkActive (m : Nat) (s : State) : (addMissed m s).linkActive = s.linkActive := rfl
@[simp] theorem addMissed_failsafeActive (m : Nat) (s : State) :
    (addMissed m s).failsafeActive = s.failsafeActive := rfl
@[simp] theorem addMissed_statSent (m : Nat) (s : State) : (addMissed m s).statSent = s.statSent := rfl
@[simp] theorem addMissed_statReceived (m : Nat) (s : State) : (addMissed m s).statReceived = s.statReceived := rfl
@[simp] theorem addMissed_statMissed (m : Nat) (s : State) : (addMissed m s).statMissed = satAdd32 s.statMissed m := rfl
@[simp] theorem addMissed_statCrcFail (m : Nat) (s : State) : (addMissed m s).statCrcFail = s.statCrcFail := rfl
@[simp] theorem addMissed_statVerMismatch (m : Nat) (s : State) :
    (addMissed m s).statVerMismatch = s.statVerMismatch := rfl
@[simp] theorem addMissed_statTypeMismatch (m : Nat) (s : State) :
    (addMissed m s).statTypeMismatch = s.statTypeMismatch := rfl
@[simp] theorem addMissed_statLenError (m : Nat) (s : State) : (addMissed m s).statLenError = s.statLenError := rfl
@[simp] theorem addMissed_linkQuality (m : Nat) (s : State) : (addMissed m s).linkQuality = s.linkQuality := rfl
@[simp] theorem addMissed_fs (m : Nat) (s : State) : (addMissed m s).fs = s.fs := rfl
@[simp] theorem addMissed_txbuf (m : Nat) (s : State) : (addMissed m s).txbuf = s.txbuf := rfl
@[simp] theorem addMissed_rxbuf (m : Nat) (s : State) : (addMissed m s).rxbuf = s.rxbuf := rfl
@[simp] theorem addMissed_pending (m : Nat) (s : State) : (addMissed m s).pending = s.pending := rfl
@[simp] theorem addMissed_xcvr (m : Nat) (s : State) : (addMissed m s).xcvr = s.xcvr := rfl
@[simp] theorem addMissed_calls (m : Nat) (s : State) : (addMissed m s).calls = s.calls := rfl
@[simp] theorem addMissed_response (m : Nat) (s : State) : (addMissed m s).response = s.response := rfl
@[simp] theorem addMissed_freeCount (m : Nat) (s : State) : (addMissed m s).freeCount = s.freeCount := rfl

/-! ## clearMissed -/

@[simp] theorem clearMissed_cfg (s : State) : (clearMissed s).cfg = s.cfg := rfl
@[simp] theorem clearMissed_initialized (s : State) : (clearMissed s).initialized = s.initialized := rfl
@[simp] theorem clearMissed_txSequence (s : State) : (clearMissed s).txSequence = s.txSequence := rfl
@[simp] theorem clearMissed_rxSequenceLast (s : State) : (clearMissed s).rxSequenceLast = s.rxSequenceLast := rfl
@[simp] theorem clearMissed_rxValid (s : State) : (clearMissed s).rxValid = s.rxValid := rfl
@[simp] theorem clearMissed_lastRxTime (s : State) : (clearMissed s).lastRxTime = s.lastRxTime := rfl
@[simp] theorem clearMissed_consecutiveMissed (s : State) : (clearMissed s).consecutiveMissed = 0 := rfl
@[simp] theorem clearMissed_rxSinceTick (s : State) : (clearMissed s).rxSinceTick = s.rxSinceTick := rfl
@[simp] theorem clearMissed_linkActive (s : State) : (clearMissed s).linkActive = s.linkActive := rfl
@[simp] theorem clearMissed_failsafeActive (s : State) : (clearMissed s).failsafeActive = s.failsafeActive := rfl
@[simp] theorem clearMissed_statSent (s : State) : (clearMissed s).statSent = s.statSent := rfl
@[simp] theorem clearMissed_statReceived (s : State) : (clearMissed s).statReceived = s.statReceived := rfl
@[simp] theorem clearMissed_statMissed (s : State) : (clearMissed s).statMissed = s.statMissed := rfl
@[simp] theorem clearMissed_statCrcFail (s : State) : (clearMissed s).statCrcFail = s.statCrcFail := rfl
@[simp] theorem clearMissed_statVerMismatch (s : State) : (clearMissed s).statVerMismatch = s.statVerMismatch := rfl
@[simp] theorem clearMissed_statTypeMismatch (s : State) : (clearMissed s).statTypeMismatch = s.statTypeMismatch := rfl
@[simp] theorem clearMissed_statLenError (s : State) : (clearMissed s).statLenError = s.statLenError := rfl
@[simp] theorem clearMissed_linkQuality (s : State) : (clearMissed s).linkQuality = s.linkQuality := rfl
@[simp] theorem clearMissed_fs (s : State) : (clearMissed s).fs = s.fs := rfl
@[simp] theorem clearMissed_txbuf (s : State) : (clearMissed s).txbuf = s.txbuf := rfl
@[simp] theorem clearMissed_rxbuf (s : State) : (clearMissed s).rxbuf = s.rxbuf := rfl
@[simp] theorem clearMissed_pending (s : State) : (clearMissed s).pending = s.pending := rfl
@[simp] theorem clearMissed_xcvr (s : State) : (clearMissed s).xcvr = s.xcvr := rfl
@[simp] theorem clearMissed_calls (s : State) : (clearMissed s).calls = s.calls := rfl
@[simp] theorem clearMissed_response (s : State) : (clearMissed s).response = s.response := rfl
@[simp] theorem clearMissed_freeCount (s : State) : (clearMissed s).freeCount = s.freeCount := rfl

/-! ## markReceived -/

@[simp] theorem markReceived_cfg (seq : Byte) (t : U32) (s : State) : (markReceived seq t s).cfg = s.cfg := rfl
@[simp] theorem markReceived_initialized (seq : Byte) (t : U32) (s : State) :
    (markReceived seq t s).initialized = s.initialized := rfl
@[simp] theorem markReceived_txSequence (seq : Byte) (t : U32) (s : State) :
    (markReceived seq t s).txSequence = s.txSequence := rfl
@[simp] theorem markReceived_rxSequenceLast (seq : Byte) (t : U32) (s : State) :
    (markReceived seq t s).rxSequenceLast = seq := rfl
@[simp] theorem markReceived_rxValid (seq : Byte) (t : U32) (s : State) : (markReceived seq t s).rxValid = true := rfl
@[simp] theorem markReceived_lastRxTime (seq : Byte) (t : U32) (s : State) :
    (markReceived seq t s).lastRxTime = t := rfl
@[simp] theorem markReceived_consecutiveMissed (seq : Byte) (t : U32) (s : State) :
    (markReceived seq t s).consecutiveMissed = s.consecutiveMissed := rfl
@[simp] theorem markReceived_rxSinceTick (seq : Byte) (t : U32) (s : State) :
    (markReceived seq t s).rxSinceTick = true := rfl
@[simp] theorem markReceived_linkActive (seq : Byte) (t : U32) (s : State) :
    (markReceived seq t s).linkActive = s.linkActive := rfl
@[simp] theorem markReceived_failsafeActive (seq : Byte) (t : U32) (s : State) :
    (markReceived seq t s).failsafeActive = s.failsafeActive := rfl
@[simp] theorem markReceived_statSent (seq : Byte) (t : U32) (s : State) :
    (markReceived seq t s).statSent = s.statSent := rfl
@[simp] theorem markReceived_statReceived (seq : Byte) (t : U32) (s : State) :
    (markReceived seq t s).statReceived = s.statReceived := rfl
@[simp] theorem markReceived_statMissed (seq : Byte) (t : U32) (s : State) :
    (markReceived seq t s).statMissed = s.statMissed := rfl
@[simp] theorem markReceived_statCrcFail (seq : Byte) (t : U32) (s : State) :
    (markReceived seq t s).statCrcFail = s.statCrcFail := rfl
@[simp] theorem markReceived_statVerMismatch (seq : Byte) (t : U32) (s : State) :
    (markReceived seq t s).statVerMismatch = s.statVerMismatch := rfl
@[simp] theorem markReceived_statTypeMismatch (seq : Byte) (t : U32) (s : State) :
    (markReceived seq t s).statTypeMismatch = s.statTypeMismatch := rfl
@[simp] theorem markReceived_statLenError (seq : Byte) (t : U32) (s : State) :
    (markReceived seq t s).statLenError = s.statLenError := rfl
@[simp] theorem markReceived_linkQuality (seq : Byte) (t : U32) (s : State) :
    (markReceived seq t s).linkQuality = s.linkQuality := rfl
@[simp] theorem markReceived_fs (seq : Byte) (t : U32) (s : State) : (markReceived seq t s).fs = s.fs := rfl
@[simp] theorem markReceived_txbuf (seq : Byte) (t : U32) (s : State) : (markReceived seq t s).txbuf = s.txbuf := rfl
@[simp] theorem markReceived_rxbuf (seq : Byte) (t : U32) (s : State) : (markReceived seq t s).rxbuf = s.rxbuf := rfl
@[simp] theorem markReceived_pending (seq : Byte) (t : U32) (s : State) :
    (markReceived seq t s).pending = s.pending := rfl
@[simp] theorem markReceived_xcvr (seq : Byte) (t : U32) (s : State) : (markReceived seq t s).xcvr = s.xcvr := rfl
@[simp] theorem markReceived_calls (seq : Byte) (t : U32) (s : State) : (markReceived seq t s).calls = s.calls := rfl
@[simp] theorem markReceived_response (seq : Byte) (t : U32) (s : State) :
    (markReceived seq t s).response = s.response := rfl
@[simp] theorem markReceived_freeCount (seq : Byte) (t : U32) (s : State) :
    (markReceived seq t s).freeCount = s.freeCount := rfl

/-! ## storeQuality -/

@[simp] theorem storeQuality_cfg (s : State) : (storeQuality s).cfg = s.cfg := rfl
@[simp] theorem storeQuality_initialized (s : State) : (storeQuality s).initialized = s.initialized := rfl
@[simp] theorem storeQuality_txSequence (s : State) : (storeQuality s).txSequence = s.txSequence := rfl
@[simp] theorem storeQuality_rxSequenceLast (s : State) : (storeQuality s).rxSequenceLast = s.rxSequenceLast := rfl
@[simp] theorem storeQuality_rxValid (s : State) : (storeQuality s).rxValid = s.rxValid := rfl
@[simp] theorem storeQuality_lastRxTime (s : State) : (storeQuality s).lastRxTime = s.lastRxTime := rfl
@[simp] theorem storeQuality_consecutiveMissed (s : State) :
    (storeQuality s).consecutiveMissed = s.consecutiveMissed := rfl
@[simp] theorem storeQuality_rxSinceTick (s : State) : (storeQuality s).rxSinceTick = s.rxSinceTick := rfl
@[simp] theorem storeQuality_linkActive (s : State) : (storeQuality s).linkActive = s.linkActive := rfl
@[simp] theorem storeQuality_failsafeActive (s : State) : (storeQuality s).failsafeActive = s.failsafeActive := rfl
@[simp] theorem storeQuality_statSent (s : State) : (storeQuality s).statSent = s.statSent := rfl
@[simp] theorem storeQuality_statReceived (s : State) : (storeQuality s).statReceived = s.statReceived := rfl
@[simp] theorem storeQuality_statMissed (s : State) : (storeQuality s).statMissed = s.statMissed := rfl
@[simp] theorem storeQuality_statCrcFail (s : State) : (storeQuality s).statCrcFail = s.statCrcFail := rfl
@[simp] theorem storeQuality_statVerMismatch (s : State) : (storeQuality s).statVerMismatch = s.statVerMismatch := rfl
@[simp] theorem storeQuality_statTypeMismatch (s : State) :
    (storeQuality s).statTypeMismatch = s.statTypeMismatch := rfl
@[simp] theorem storeQuality_statLenError (s : State) : (storeQuality s).statLenError = s.statLenError := rfl
@[simp] theorem storeQuality_linkQuality (s : State) :
    (storeQuality s).linkQuality = quality s.statSent s.statMissed := rfl
@[simp] theorem storeQuality_fs (s : State) : (storeQuality s).fs = s.fs := rfl
@[simp] theorem storeQuality_txbuf (s : State) : (storeQuality s).txbuf = s.txbuf := rfl
@[simp] theorem storeQuality_rxbuf (s : State) : (storeQuality s).rxbuf = s.rxbuf := rfl
@[simp] theorem storeQuality_pending (s : State) : (storeQuality s).pending = s.pending := rfl
@[simp] theorem storeQuality_xcvr (s : State) : (storeQuality s).xcvr = s.xcvr := rfl
@[simp] theorem storeQuality_calls (s : State) : (storeQuality s).calls = s.calls := rfl
@[simp] theorem storeQuality_response (s : State) : (storeQuality s).response = s.response := rfl
@[simp] theorem storeQuality_freeCount (s : State) : (storeQuality s).freeCount = s.freeCount := rfl

/-! ## countSent -/

@[simp] theorem countSent_cfg (s : State) : (countSent s).cfg = s.cfg := rfl
@[simp] theorem countSent_initialized (s : State) : (countSent s).initialized = s.initialized := rfl
@[simp] theorem countSent_txSequence (s : State) : (countSent s).txSequence = s.txSequence + 1 := rfl
@[simp] theorem countSent_rxSequenceLast (s : State) : (countSent s).rxSequenceLast = s.rxSequenceLast := rfl
@[simp] theorem countSent_rxValid (s : State) : (countSent s).rxValid = s.rxValid := rfl
@[simp] theorem countSent_lastRxTime (s : State) : (countSent s).lastRxTime = s.lastRxTime := rfl
@[simp] theorem countSent_consecutiveMissed (s : State) : (countSent s).consecutiveMissed = s.consecutiveMissed := rfl
@[simp] theorem countSent_rxSinceTick (s : State) : (countSent s).rxSinceTick = s.rxSinceTick := rfl
@[simp] theorem countSent_linkActive (s : State) : (countSent s).linkActive = s.linkActive := rfl
@[simp] theorem countSent_failsafeActive (s : State) : (countSent s).failsafeActive = s.failsafeActive := rfl
@[simp] theorem countSent_statSent (s : State) : (countSent s).statSent = satAdd32 s.statSent 1 := rfl
@[simp] theorem countSent_statReceived (s : State) : (countSent s).statReceived = s.statReceived := rfl
@[simp] theorem countSent_statMissed (s : State) : (countSent s).statMissed = s.statMissed := rfl
@[simp] theorem countSent_statCrcFail (s : State) : (countSent s).statCrcFail = s.statCrcFail := rfl
@[simp] theorem countSent_statVerMismatch (s : State) : (countSent s).statVerMismatch = s.statVerMismatch := rfl
@[simp] theorem countSent_statTypeMismatch (s : State) : (countSent s).statTypeMismatch = s.statTypeMismatch := rfl
@[simp] theorem countSent_statLenError (s : State) : (countSent s).statLenError = s.statLenError := rfl
@[simp] theorem countSent_linkQuality (s : State) : (countSent s).linkQuality = s.linkQuality := rfl
@[simp] theorem countSent_fs (s : State) : (countSent s).fs = s.fs := rfl
@[simp] theorem countSent_txbuf (s : State) : (countSent s).txbuf = s.txbuf := rfl
@[simp] theorem countSent_rxbuf (s : State) : (countSent s).rxbuf = s.rxbuf := rfl
@[simp] theorem countSent_pending (s : State) : (countSent s).pending = s.pending := rfl
@[simp] theorem countSent_xcvr (s : State) : (countSent s).xcvr = s.xcvr := rfl
@[simp] theorem countSent_calls (s : State) : (countSent s).calls = s.calls := rfl
@[simp] theorem countSent_response (s : State) : (countSent s).response = s.response := rfl
@[simp] theorem countSent_freeCount (s : State) : (countSent s).freeCount = s.freeCount := rfl

/-! ## countReceived -/

@[simp] theorem countReceived_cfg (s : State) : (countReceived s).cfg = s.cfg := rfl
@[simp] theorem countReceived_initialized (s : State) : (countReceived s).initialized = s.initialized := rfl
@[simp] theorem countReceived_txSequence (s : State) : (countReceived s).txSequence = s.txSequence := rfl
@[simp] theorem countReceived_rxSequenceLast (s : State) : (countReceived s).rxSequenceLast = s.rxSequenceLast := rfl
@[simp] theorem countReceived_rxValid (s : State) : (countReceived s).rxValid = s.rxValid := rfl
@[simp] theorem countReceived_lastRxTime (s : State) : (countReceived s).lastRxTime = s.lastRxTime := rfl
@[simp] theorem countReceived_consecutiveMissed (s : State) :
    (countReceived s).consecutiveMissed = s.consecutiveMissed := rfl
@[simp] theorem countReceived_rxSinceTick (s : State) : (countReceived s).rxSinceTick = s.rxSinceTick := rfl
@[simp] theorem countReceived_linkActive (s : State) : (countReceived s).linkActive = s.linkActive := rfl
@[simp] theorem countReceived_failsafeActive (s : State) : (countReceived s).failsafeActive = false := rfl
@[simp] theorem countReceived_statSent (s : State) : (countReceived s).statSent = s.statSent := rfl
@[simp] theorem countReceived_statReceived (s : State) :
    (countReceived s).statReceived = satAdd32 s.statReceived 1 := rfl
@[simp] theorem countReceived_statMissed (s : State) : (countReceived s).statMissed = s.statMissed := rfl
@[simp] theorem countReceived_statCrcFail (s : State) : (countReceived s).statCrcFail = s.statCrcFail := rfl
@[simp] theorem countReceived_statVerMismatch (s : State) : (countReceived s).statVerMismatch = s.statVerMismatch := rfl
@[simp] theorem countReceived_statTypeMismatch (s : State) :
    (countReceived s).statTypeMismatch = s.statTypeMismatch := rfl
@[simp] theorem countReceived_statLenError (s : State) : (countReceived s).statLenError = s.statLenError := rfl
@[simp] theorem countReceived_linkQuality (s : State) : (countReceived s).linkQuality = s.linkQuality := rfl
@[simp] theorem countReceived_fs (s : State) : (countReceived s).fs = s.fs := rfl
@[simp] theorem countReceived_txbuf (s : State) : (countReceived s).txbuf = s.txbuf := rfl
@[simp] theorem countReceived_rxbuf (s : State) : (countReceived s).rxbuf = s.rxbuf := rfl
@[simp] theorem countReceived_pending (s : State) : (countReceived s).pending = s.pending := rfl
@[simp] theorem countReceived_xcvr (s : State) : (countReceived s).xcvr = s.xcvr := rfl
@[simp] theorem countReceived_calls (s : State) : (countReceived s).calls = s.calls := rfl
@[simp] theorem countReceived_response (s : State) : (countReceived s).response = s.response := rfl
@[simp] theorem countReceived_freeCount (s : State) : (countReceived s).freeCount = s.freeCount := rfl

/-! ## initSession -/

@[simp] theorem initSession_cfg (t : U32) (s : State) : (initSession t s).cfg = s.cfg := rfl
@[simp] theorem initSession_initialized (t : U32) (s : State) : (initSession t s).initialized = true := rfl
@[simp] theorem initSession_txSequence (t : U32) (s : State) : (initSession t s).txSequence = 0 := rfl
@[simp] theorem initSession_rxSequenceLast (t : U32) (s : State) : (initSession t s).rxSequenceLast = 0 := rfl
@[simp] theorem initSession_rxValid (t : U32) (s : State) : (initSession t s).rxValid = false := rfl
@[simp] theorem initSession_lastRxTime (t : U32) (s : State) : (initSession t s).lastRxTime = t := rfl
@[simp] theorem initSession_consecutiveMissed (t : U32) (s : State) : (initSession t s).consecutiveMissed = 0 := rfl
@[simp] theorem initSession_rxSinceTick (t : U32) (s : State) : (initSession t s).rxSinceTick = false := rfl
@[simp] theorem initSession_linkActive (t : U32) (s : State) : (initSession t s).linkActive = true := rfl
@[simp] theorem initSession_failsafeActive (t : U32) (s : State) : (initSession t s).failsafeActive = false := rfl
@[simp] theorem initSession_statSent (t : U32) (s : State) : (initSession t s).statSent = 0 := rfl
@[simp] theorem initSession_statReceived (t : U32) (s : State) : (initSession t s).statReceived = 0 := rfl
@[simp] theorem initSession_statMissed (t : U32) (s : State) : (initSession t s).statMissed = 0 := rfl
@[simp] theorem initSession_statCrcFail (t : U32) (s : State) : (initSession t s).statCrcFail = 0 := rfl
@[simp] theorem initSession_statVerMismatch (t : U32) (s : State) : (initSession t s).statVerMismatch = 0 := rfl
@[simp] theorem initSession_statTypeMismatch (t : U32) (s : State) : (initSession t s).statTypeMismatch = 0 := rfl
@[simp] theorem initSession_statLenError (t : U32) (s : State) : (initSession t s).statLenError = 0 := rfl
@[simp] theorem initSession_linkQuality (t : U32) (s : State) : (initSession t s).linkQuality = 0 := rfl
@[simp] theorem initSession_fs (t : U32) (s : State) : (initSession t s).fs = s.cfg.defaultFailsafe := rfl
@[simp] theorem initSession_txbuf (t : U32) (s : State) :
    (initSession t s).txbuf = List.replicate s.cfg.frameSize 0x00 := rfl
@[simp] theorem initSession_rxbuf (t : U32) (s : State) :
    (initSession t s).rxbuf = List.replicate s.cfg.frameSize 0x00 := rfl
@[simp] theorem initSession_pending (t : U32) (s : State) : (initSession t s).pending = s.pending := rfl
@[simp] theorem initSession_xcvr (t : U32) (s : State) : (initSession t s).xcvr = s.xcvr := rfl
@[simp] theorem initSession_calls (t : U32) (s : State) : (initSession t s).calls = s.calls := rfl
@[simp] theorem initSession_response (t : U32) (s : State) : (initSession t s).response = s.response := rfl
@[simp] theorem initSession_freeCount (t : U32) (s : State) : (initSession t s).freeCount = s.freeCount := rfl

/-! ## substitute -/

@[simp] theorem substitute_cfg (s : State) : (substitute s).cfg = s.cfg := rfl
@[simp] theorem substitute_initialized (s : State) : (substitute s).initialized = s.initialized := rfl
@[simp] theorem substitute_txSequence (s : State) : (substitute s).txSequence = s.txSequence := rfl
@[simp] theorem substitute_rxSequenceLast (s : State) : (substitute s).rxSequenceLast = s.rxSequenceLast := rfl
@[simp] theorem substitute_rxValid (s : State) : (substitute s).rxValid = s.rxValid := rfl
@[simp] theorem substitute_lastRxTime (s : State) : (substitute s).lastRxTime = s.lastRxTime := rfl
@[simp] theorem substitute_consecutiveMissed (s : State) : (substitute s).consecutiveMissed = s.consecutiveMissed := rfl
@[simp] theorem substitute_rxSinceTick (s : State) : (substitute s).rxSinceTick = s.rxSinceTick := rfl
@[simp] theorem substitute_linkActive (s : State) : (substitute s).linkActive = s.linkActive := rfl
@[simp] theorem substitute_failsafeActive (s : State) : (substitute s).failsafeActive = true := rfl
@[simp] theorem substitute_statSent (s : State) : (substitute s).statSent = s.statSent := rfl
@[simp] theorem substitute_statReceived (s : State) : (substitute s).statReceived = s.statReceived := rfl
@[simp] theorem substitute_statMissed (s : State) : (substitute s).statMissed = s.statMissed := rfl
@[simp] theorem substitute_statCrcFail (s : State) : (substitute s).statCrcFail = s.statCrcFail := rfl
@[simp] theorem substitute_statVerMismatch (s : State) : (substitute s).statVerMismatch = s.statVerMismatch := rfl
@[simp] theorem substitute_statTypeMismatch (s : State) : (substitute s).statTypeMismatch = s.statTypeMismatch := rfl
@[simp] theorem substitute_statLenError (s : State) : (substitute s).statLenError = s.statLenError := rfl
@[simp] theorem substitute_linkQuality (s : State) : (substitute s).linkQuality = s.linkQuality := rfl
@[simp] theorem substitute_fs (s : State) : (substitute s).fs = s.fs := rfl
@[simp] theorem substitute_txbuf (s : State) : (substitute s).txbuf = s.txbuf := rfl
@[simp] theorem substitute_rxbuf (s : State) : (substitute s).rxbuf = s.rxbuf := rfl
@[simp] theorem substitute_pending (s : State) : (substitute s).pending = s.pending := rfl
@[simp] theorem substitute_xcvr (s : State) : (substitute s).xcvr = s.xcvr := rfl
@[simp] theorem substitute_calls (s : State) : (substitute s).calls = s.calls := rfl
@[simp] theorem substitute_response (s : State) :
    (substitute s).response = some ⟨.ok, ⟨true, false, false, !s.failsafeActive⟩, 0, s.fs⟩ := rfl
@[simp] theorem substitute_freeCount (s : State) : (substitute s).freeCount = s.freeCount := rfl

/-! ## countRejection -/

@[simp] theorem countRejection_cfg (r : Rejection) (s : State) : (countRejection r s).cfg = s.cfg := by cases r <;> rfl
@[simp] theorem countRejection_initialized (r : Rejection) (s : State) :
    (countRejection r s).initialized = s.initialized := by cases r <;> rfl
@[simp] theorem countRejection_txSequence (r : Rejection) (s : State) :
    (countRejection r s).txSequence = s.txSequence := by cases r <;> rfl
@[simp] theorem countRejection_rxSequenceLast (r : Rejection) (s : State) :
    (countRejection r s).rxSequenceLast = s.rxSequenceLast := by cases r <;> rfl
@[simp] theorem countRejection_rxValid (r : Rejection) (s : State) :
    (countRejection r s).rxValid = s.rxValid := by cases r <;> rfl
@[simp] theorem countRejection_lastRxTime (r : Rejection) (s : State) :
    (countRejection r s).lastRxTime = s.lastRxTime := by cases r <;> rfl
@[simp] theorem countRejection_consecutiveMissed (r : Rejection) (s : State) :
    (countRejection r s).consecutiveMissed = s.consecutiveMissed := by cases r <;> rfl
@[simp] theorem countRejection_rxSinceTick (r : Rejection) (s : State) :
    (countRejection r s).rxSinceTick = s.rxSinceTick := by cases r <;> rfl
@[simp] theorem countRejection_linkActive (r : Rejection) (s : State) :
    (countRejection r s).linkActive = s.linkActive := by cases r <;> rfl
@[simp] theorem countRejection_failsafeActive (r : Rejection) (s : State) :
    (countRejection r s).failsafeActive = s.failsafeActive := by cases r <;> rfl
@[simp] theorem countRejection_statSent (r : Rejection) (s : State) :
    (countRejection r s).statSent = s.statSent := by cases r <;> rfl
@[simp] theorem countRejection_statReceived (r : Rejection) (s : State) :
    (countRejection r s).statReceived = s.statReceived := by cases r <;> rfl
@[simp] theorem countRejection_statMissed (r : Rejection) (s : State) :
    (countRejection r s).statMissed = s.statMissed := by cases r <;> rfl
@[simp] theorem countRejection_statCrcFail (r : Rejection) (s : State) :
    (countRejection r s).statCrcFail = if r = .checksumFailure then satAdd32 s.statCrcFail 1 else s.statCrcFail :=
  by cases r <;> rfl
@[simp] theorem countRejection_statVerMismatch (r : Rejection) (s : State) :
    (countRejection r s).statVerMismatch = if r = .versionMismatch then satAdd32 s.statVerMismatch 1 else s.statVerMismatch :=
  by cases r <;> rfl
@[simp] theorem countRejection_statTypeMismatch (r : Rejection) (s : State) :
    (countRejection r s).statTypeMismatch = if r = .typeMismatch then satAdd32 s.statTypeMismatch 1 else s.statTypeMismatch :=
  by cases r <;> rfl
@[simp] theorem countRejection_statLenError (r : Rejection) (s : State) :
    (countRejection r s).statLenError = if r = .lengthMismatch then satAdd32 s.statLenError 1 else s.statLenError :=
  by cases r <;> rfl
@[simp] theorem countRejection_linkQuality (r : Rejection) (s : State) :
    (countRejection r s).linkQuality = s.linkQuality := by cases r <;> rfl
@[simp] theorem countRejection_fs (r : Rejection) (s : State) : (countRejection r s).fs = s.fs := by cases r <;> rfl
@[simp] theorem countRejection_txbuf (r : Rejection) (s : State) :
    (countRejection r s).txbuf = s.txbuf := by cases r <;> rfl
@[simp] theorem countRejection_rxbuf (r : Rejection) (s : State) :
    (countRejection r s).rxbuf = s.rxbuf := by cases r <;> rfl
@[simp] theorem countRejection_pending (r : Rejection) (s : State) :
    (countRejection r s).pending = s.pending := by cases r <;> rfl
@[simp] theorem countRejection_xcvr (r : Rejection) (s : State) :
    (countRejection r s).xcvr = s.xcvr := by cases r <;> rfl
@[simp] theorem countRejection_calls (r : Rejection) (s : State) :
    (countRejection r s).calls = s.calls := by cases r <;> rfl
@[simp] theorem countRejection_response (r : Rejection) (s : State) :
    (countRejection r s).response = s.response := by cases r <;> rfl
@[simp] theorem countRejection_freeCount (r : Rejection) (s : State) :
    (countRejection r s).freeCount = s.freeCount := by cases r <;> rfl

/-! ## Errors and plain answers are responses -/

@[simp] theorem respondError_eq (st : Status) (s : State) : respondError st s = respond st Info.empty 0 [] s := rfl
@[simp] theorem respondOk_eq (s : State) : respondOk s = respond .ok Info.empty 0 [] s := rfl
@[simp] theorem illegalCommand_eq (s : State) :
    illegalCommand s = respond .invalidParameter Info.empty 0 [] s := rfl

end Sys2Proof.Machine
end

