-- ==== Sys2Proof/Laws/Ops.lean ====
section
/-!
SUPPORT. What each shared operation can do, said once: the data channel, the type operand, the saturating sums, the checks of R264,
the ends of SEND and RECV, and the meaning of each command as a next state.
-/

namespace Sys2Proof

/-! ## The data channel -/

@[simp] theorem channel_length (n : Nat) (b : Bytes) : (channel n b).length = n := by
  induction n generalizing b with
  | zero => rfl
  | succ n ih => cases b <;> simp [channel, ih]

/-- A channel that lists exactly its bytes is read as it stands. -/
@[simp] theorem channel_self (b : Bytes) : channel b.length b = b := by
  induction b with
  | nil => rfl
  | cons x xs ih => simp [channel, ih]

theorem channel_of_length {n : Nat} {b : Bytes} (h : b.length = n) : channel n b = b := by
  subst h; exact channel_self b

namespace Machine

/-! ## The type operand -/

@[simp] theorem typeOfByte_typeCode (ty : PacketType) : typeOfByte (typeCode ty) = some ty := by
  cases ty <;> decide

theorem typeOfByte_eq_some {a : Byte} {ty : PacketType} (h : typeOfByte a = some ty) : a = typeCode ty := by
  unfold typeOfByte at h
  split at h <;> [skip; split at h <;> [skip; split at h <;> [skip; split at h]]] <;> simp_all

theorem typeOfByte_eq_none {a : Byte} (h : ∀ ty, a ≠ typeCode ty) : typeOfByte a = none := by
  simp [typeOfByte, h]

/-! ## Saturating sums -/

@[simp] theorem satAdd16_toNat (x : U16) (m : Nat) : (satAdd16 x m).toNat = min (x.toNat + m) (2 ^ 16 - 1) := by
  simp only [satAdd16, BitVec.toNat_ofNat]; omega

@[simp] theorem satAdd32_toNat (x : U32) (m : Nat) : (satAdd32 x m).toNat = min (x.toNat + m) (2 ^ 32 - 1) := by
  simp only [satAdd32, BitVec.toNat_ofNat]; omega

/-! ## The checks of R264 -/

/-- Check (2): the work is done, or the answer is `InvalidParameter`. -/
theorem checkLength_cases (legal : Bool) (work : State → State) (s : State) :
    (legal = true ∧ checkLength legal work s = work s) ∨
    (legal = false ∧ checkLength legal work s = respondError .invalidParameter s) := by
  cases legal <;> simp [checkLength]

/-- Check (3): the work is done, or the answer is `NotInitialized`. -/
theorem checkInitialized_cases (work : State → State) (s : State) :
    (s.initialized = true ∧ checkInitialized work s = work s) ∨
    (s.initialized = false ∧ checkInitialized work s = respondError .notInitialized s) := by
  cases h : s.initialized <;> simp [checkInitialized, h]

/-- Check (4) for a type operand: the work is done on the type, or the answer is `InvalidParameter`. -/
theorem checkType_cases (a : Byte) (work : PacketType → State → State) (s : State) :
    (∃ ty, typeOfByte a = some ty ∧ checkType a work s = work ty s) ∨
    (typeOfByte a = none ∧ checkType a work s = respondError .invalidParameter s) := by
  unfold checkType
  cases typeOfByte a with
  | none => exact .inr ⟨rfl, rfl⟩
  | some ty => exact .inl ⟨ty, rfl, rfl⟩

/-! ## The ends of SEND and RECV -/

/-- SEND's transmit: one call, then success or a relayed failure (R195, R196). -/
theorem transmitFrame_cases (s : State) :
    (s.xcvr.transmit = .ok ∧ transmitFrame s = respondOk (countSent (call (.transmit s.txbuf) s))) ∨
    (s.xcvr.transmit = .fail ∧ transmitFrame s = respondError .hardwareFailure (call (.transmit s.txbuf) s)) := by
  unfold transmitFrame xcvrTransmit
  cases s.xcvr.transmit <;> simp

/-- SEND after its checks: a frame is built and handed over, or the payload is too large (R195). -/
theorem sendWork_cases (d : Bytes) (ty : PacketType) (s : State) :
    (∃ f, encodeFrame s.cfg ty d s.txSequence = some f ∧ sendWork d ty s = transmitFrame (storeTx f s)) ∨
    (encodeFrame s.cfg ty d s.txSequence = none ∧ sendWork d ty s = respondError .packetTooLarge s) := by
  unfold sendWork
  cases encodeFrame s.cfg ty d s.txSequence with
  | none => exact .inr ⟨rfl, rfl⟩
  | some f => exact .inl ⟨f, rfl, rfl⟩

/-- Steps 7 and 8 of RECV: the mux substitutes, or the outcome is answered (R230). -/
theorem finishWithout_cases (ty : PacketType) (out : Status) (s : State) :
    (muxApplies ty s = true ∧ finishWithout ty out s = substitute s) ∨
    (muxApplies ty s = false ∧ finishWithout ty out s = respondError out s) := by
  cases h : muxApplies ty s <;> simp [finishWithout, h]

/-- RECV after its checks (R200): no data, a failed receive, a rejected frame or an accepted one. -/
theorem recvWork_cases (t : U32) (ty : PacketType) (s : State) :
    (s.xcvr.available = false ∧ recvWork t ty s = finishWithout ty .noData (call .available s)) ∨
    (s.xcvr.available = true ∧ s.xcvr.receive = .fail ∧
      recvWork t ty s = finishWithout ty .hardwareFailure (loseRx (call .receive (call .available s)))) ∨
    (∃ bytes, s.xcvr.available = true ∧ s.xcvr.receive = .ok bytes ∧
      recvWork t ty s =
        judgeFrame ty t (storeRx (channel s.cfg.frameSize bytes) (call .receive (call .available s)))) := by
  unfold recvWork xcvrAvailable
  cases ha : s.xcvr.available
  · exact .inl ⟨rfl, rfl⟩
  · refine .inr ?_
    simp only [receiveFrame, xcvrReceive, call_xcvr]
    cases hr : s.xcvr.receive with
    | fail => exact .inl (by simp)
    | ok bytes => exact .inr ⟨bytes, by simp⟩

/-- The decoder's verdict on `RXBUF` (R200 steps 5 to 7). -/
theorem judgeFrame_cases (ty : PacketType) (t : U32) (s : State) :
    (∃ p, decodeFrame s.cfg s.rxbuf ty (expectedLen s.cfg ty) = .ok p ∧ judgeFrame ty t s = acceptFrame p t s) ∨
    (∃ r, decodeFrame s.cfg s.rxbuf ty (expectedLen s.cfg ty) = .error r ∧
      judgeFrame ty t s = finishWithout ty (rejectionStatus r) (countRejection r s)) := by
  unfold judgeFrame
  cases decodeFrame s.cfg s.rxbuf ty (expectedLen s.cfg ty) with
  | ok p => exact .inl ⟨p, rfl, rfl⟩
  | error r => exact .inr ⟨r, rfl, rfl⟩

/-! ## The meaning of each command, as the next state it answers -/

theorem exec_init (a b : Byte) (t : U32) (d : Bytes) (s : State) :
    exec (.init a b t d) s = .next (checkLength (d.length = 0) (fun s => respondOk (initSession t s)) s) := rfl

theorem exec_send (a b : Byte) (t : U32) (d : Bytes) (s : State) :
    exec (.send a b t d) s = .next (sendCommand a d s) := rfl

theorem exec_recv (a b : Byte) (t : U32) (d : Bytes) (s : State) :
    exec (.recv a b t d) s = .next (recvCommand a t d s) := rfl

theorem exec_update (a b : Byte) (t : U32) (d : Bytes) (s : State) :
    exec (.update a b t d) s = .next (checkLength (d.length = 0) (checkInitialized (updateWork t)) s) := rfl

theorem exec_setfs (a b : Byte) (t : U32) (d : Bytes) (s : State) :
    exec (.setfs a b t d) s =
      .next (checkLength (d.length = s.cfg.lenCommand) (checkInitialized (fun s => respondOk (storeFs d s))) s) := rfl

theorem exec_getfs (a b : Byte) (t : U32) (d : Bytes) (s : State) :
    exec (.getfs a b t d) s =
      .next (checkLength (d.length = 0) (checkInitialized (fun s => respond .ok Info.empty 0 s.fs s)) s) := rfl

theorem exec_rdreg (a b : Byte) (t : U32) (d : Bytes) (s : State) :
    exec (.rdreg a b t d) s = .next (checkLength (d.length = 0) (readWork a) s) := rfl

theorem exec_crc8 (a b : Byte) (t : U32) (d : Bytes) (s : State) :
    exec (.crc8 a b t d) s = .next (respond .ok Info.empty ((crc8 d).setWidth 32) [] s) := rfl

theorem exec_encode (a b : Byte) (t : U32) (d : Bytes) (s : State) :
    exec (.encode a b t d) s = .next (checkType a (encodeWork b d) s) := rfl

theorem exec_validate (a b : Byte) (t : U32) (d : Bytes) (s : State) :
    exec (.validate a b t d) s =
      .next (checkLength (d.length = s.cfg.frameSize)
        (fun s => respond .ok Info.empty (if validate s.cfg d then 1 else 0) [] s) s) := rfl

theorem exec_decode (a b : Byte) (t : U32) (d : Bytes) (s : State) :
    exec (.decode a b t d) s =
      .next (checkLength (d.length = s.cfg.frameSize) (checkType a (decodeWork b d)) s) := rfl

theorem exec_sendcmd (b : Byte) (t : U32) (d : Bytes) (s : State) :
    exec (.sendcmd b t d) s = .next (sendCommand 0x01 d s) := rfl

theorem exec_sendtel (b : Byte) (t : U32) (d : Bytes) (s : State) :
    exec (.sendtel b t d) s = .next (sendCommand 0x02 d s) := rfl

theorem exec_recvcmd (b : Byte) (t : U32) (d : Bytes) (s : State) :
    exec (.recvcmd b t d) s = .next (recvCommand 0x01 t d s) := rfl

theorem exec_recvtel (b : Byte) (t : U32) (d : Bytes) (s : State) :
    exec (.recvtel b t d) s = .next (recvCommand 0x02 t d s) := rfl

end Machine

end Sys2Proof
end

