-- ==== Sys2Proof/Laws/Codec.lean ====
section
/-!
SUPPORT. What the checksum, the encoder and the decoder can do, said once.
-/

namespace Sys2Proof.Machine

/-! ## Checksum -/

@[simp] theorem crc8_nil : crc8 [] = 0 := rfl

theorem crc8_append (x y : Bytes) : crc8 (x ++ y) = y.foldl crc8Step (crc8 x) := by
  simp [crc8, List.foldl_append]

/-! ## Slices -/

@[simp] theorem sliceAt_zero (b : Bytes) (n : Nat) : sliceAt b 0 n = b.take n := by simp [sliceAt]

/-! ## Encoder -/

@[simp] theorem frameBody_length (c : Config) (ty : PacketType) (p : Bytes) (q : Byte) :
    (frameBody c ty p q).length = 5 + p.length + (maxPayload c - p.length) := by
  simp [frameBody]; omega

/-- What the encoder can do (R131, R132). -/
theorem encodeFrame_cases (c : Config) (ty : PacketType) (p : Bytes) (q : Byte) :
    (p.length ≤ maxPayload c ∧
      encodeFrame c ty p q =
        some (frameBody c ty p q ++ [crc8 ((frameBody c ty p q).take (5 + p.length))])) ∨
    (maxPayload c < p.length ∧ encodeFrame c ty p q = none) := by
  by_cases h : p.length > maxPayload c
  · exact .inr ⟨h, by simp [encodeFrame, h]⟩
  · exact .inl ⟨by omega, by simp [encodeFrame, h]⟩

/-- What the checksum of a new frame covers: its header and its payload (R87, R131). -/
theorem frameBody_take (c : Config) (ty : PacketType) (p : Bytes) (q : Byte) :
    (frameBody c ty p q).take (5 + p.length) =
      [c.protocolVersion, typeCode ty, q, 0x00, BitVec.ofNat 8 p.length] ++ p := by
  unfold frameBody
  rw [List.take_append_of_le_length (by simp; omega), List.take_of_length_le (by simp; omega)]

/-- A frame has `FRAME_SIZE` bytes (R80, R151). -/
theorem encodeFrame_length {c : Config} {ty : PacketType} {p f : Bytes} {q : Byte} (hc : 6 ≤ c.frameSize)
    (h : encodeFrame c ty p q = some f) : f.length = c.frameSize := by
  rcases encodeFrame_cases c ty p q with ⟨hp, he⟩ | ⟨-, he⟩
  · rw [he] at h
    cases h
    simp only [List.length_append, frameBody_length, List.length_singleton]
    simp only [maxPayload] at *
    omega
  · rw [he] at h; cases h

/-! ## Decoder -/

/-- What the decoder accepts (R146): all five tests pass and the answer is the declared payload. -/
theorem decodeFrame_eq_ok {c : Config} {f p : Bytes} {et : PacketType} {el : Nat} :
    decodeFrame c f et el = .ok p ↔
      validateReason c f = none ∧ frameType f = typeCode et ∧ framePayloadLen f = el ∧ p = framePayload f := by
  unfold decodeFrame
  cases validateReason c f with
  | some r => simp
  | none =>
    by_cases h1 : frameType f = typeCode et <;> by_cases h2 : framePayloadLen f = el <;>
      simp [h1, h2, eq_comm]

/-- A frame is valid when the first three tests pass (R140). -/
theorem validateReason_eq_none {c : Config} {f : Bytes} :
    validateReason c f = none ↔
      frameVersion f = c.protocolVersion ∧ framePayloadLen f ≤ maxPayload c ∧
        crc8 (frameCovered f) = frameChecksum c f := by
  unfold validateReason
  split
  · simp_all
  · split
    · have : ¬ framePayloadLen f ≤ maxPayload c := by omega
      simp_all
    · have : framePayloadLen f ≤ maxPayload c := by omega
      simp_all

end Sys2Proof.Machine
end

