-- ==== Sys2Proof/Laws/Tracker.lean ====
section
/-!
SUPPORT. What the tracker's operations can do, said once (42_tracker.md).
-/

namespace Sys2Proof.Machine

/-- The gap as a number (R160). -/
theorem gap_toNat (seq last : Byte) : (gap seq last).toNat = (seq.toNat + 255 - last.toNat) % 256 := by
  unfold gap; bv_omega

/-- The elapsed time of the timeout trigger (R165). -/
theorem elapsed_toNat (t last : U32) : (t - last).toNat = (t.toNat + 2 ^ 32 - last.toNat) % 2 ^ 32 := by
  bv_omega

/-- What the two triggers leave of the link (R167). -/
theorem linkFresh_eq_true {t : U32} {s : State} :
    linkFresh t s = true ↔
      (t - s.lastRxTime).toNat ≤ s.cfg.linkTimeoutMs.toNat ∧
        s.consecutiveMissed.toNat < s.cfg.lossThreshold.toNat := by
  simp [linkFresh, timeoutStale, thresholdStale]

/-- Step 1 of `OBSERVE`: a gap is counted, or the count is cleared (R162 to R164). -/
theorem countGap_cases (seq : Byte) (s : State) :
    (s.rxValid = true ∧ s.linkActive = true ∧ 0 < (gap seq s.rxSequenceLast).toNat ∧
      countGap seq s = addMissed (missedOf s.cfg (gap seq s.rxSequenceLast)) s) ∨
    ((s.rxValid = false ∨ s.linkActive = false ∨ (gap seq s.rxSequenceLast).toNat = 0) ∧
      countGap seq s = clearMissed s) := by
  by_cases h3 : 0 < (gap seq s.rxSequenceLast).toNat <;> cases h1 : s.rxValid <;> cases h2 : s.linkActive <;>
    simp [countGap, h1, h2, h3]
  omega

/-- Steps 2 and 3 of UPDATE: a miss is counted, or the tick saw a frame (R170). -/
theorem countTick_cases (s : State) :
    (s.rxSinceTick = true ∧ countTick s = { s with rxSinceTick := false }) ∨
    (s.rxSinceTick = false ∧ countTick s = addMissed 1 s) := by
  cases h : s.rxSinceTick <;> simp [countTick, h]

/-- Right after `last_rx_time <- T` the timeout trigger is clear (R168). -/
theorem timeoutStale_markReceived (seq : Byte) (t : U32) (s : State) :
    timeoutStale t (markReceived seq t s) = false := by
  simp [timeoutStale]

/-- `link_quality` is a percentage (R176). -/
theorem quality_le (sent missed : U32) : (quality sent missed).toNat ≤ 100 := by
  unfold quality
  split
  · simp
  · split
    · simp
    · have h : 100 * (sent.toNat - missed.toNat) / sent.toNat ≤ 100 :=
        Nat.div_le_of_le_mul (by rw [Nat.mul_comm]; exact Nat.mul_le_mul_right _ (Nat.sub_le _ _))
      simp only [BitVec.toNat_ofNat]
      exact (Nat.mod_le _ _).trans h

end Sys2Proof.Machine
end

