-- ==== Sys2Proof/Laws/Commands.lean ====
section
/-!
SUPPORT. What each command can do, said once: SEND and RECV inverted down to the operations they end in, and the forms of Safety.lean
related to the operations.
-/

namespace Sys2Proof.Machine

/-! ## Forms -/

theorem typeOfByte_eq_none_iff (a : Byte) : typeOfByte a = none ↔ a ∉ [0x01, 0x02, 0x03, 0x04] := by
  revert a; decide

theorem exec_of_sendForm {a b : Byte} {t : U32} {d : Bytes} {i : Instr} (h : sendForm a b t d i) (s : State) :
    exec i s = .next (sendCommand a d s) := by
  rcases h with rfl | ⟨rfl, rfl⟩ | ⟨rfl, rfl⟩ <;> rfl

theorem exec_of_recvForm {a b : Byte} {t : U32} {d : Bytes} {i : Instr} (h : recvForm a b t d i) (s : State) :
    exec i s = .next (recvCommand a t d s) := by
  rcases h with rfl | ⟨rfl, rfl⟩ | ⟨rfl, rfl⟩ <;> rfl

theorem exists_sendForm {i : Instr} (h : isSend i = true) : ∃ a b t d, sendForm a b t d i := by
  cases i <;> first | (cases h; done) | skip
  · exact ⟨_, _, _, _, .inl rfl⟩
  · exact ⟨_, _, _, _, .inr (.inl ⟨rfl, rfl⟩)⟩
  · exact ⟨_, _, _, _, .inr (.inr ⟨rfl, rfl⟩)⟩

theorem exists_recvForm {i : Instr} (h : isRecv i = true) : ∃ a b t d, recvForm a b t d i := by
  cases i <;> first | (cases h; done) | skip
  · exact ⟨_, _, _, _, .inl rfl⟩
  · exact ⟨_, _, _, _, .inr (.inr ⟨rfl, rfl⟩)⟩
  · exact ⟨_, _, _, _, .inr (.inl ⟨rfl, rfl⟩)⟩

/-- The mux's condition in the spec's words (R230). -/
theorem muxApplies_iff (ty : PacketType) (s : State) :
    muxApplies ty s = true ↔ (s.cfg.role = .aircraft ∧ ty = .command ∧ s.linkActive = false) := by
  simp [muxApplies, and_assoc]

/-! ## SEND (R195) -/

/-- Everything SEND can do. -/
theorem sendCommand_cases (a : Byte) (d : Bytes) (s : State) :
    (s.initialized = false ∧ sendCommand a d s = respondError .notInitialized s) ∨
    (s.initialized = true ∧ typeOfByte a = none ∧ sendCommand a d s = respondError .invalidParameter s) ∨
    (∃ ty, s.initialized = true ∧ typeOfByte a = some ty ∧ encodeFrame s.cfg ty d s.txSequence = none ∧
      sendCommand a d s = respondError .packetTooLarge s) ∨
    (∃ ty f, s.initialized = true ∧ typeOfByte a = some ty ∧ encodeFrame s.cfg ty d s.txSequence = some f ∧
      s.xcvr.transmit = .fail ∧
      sendCommand a d s = respondError .hardwareFailure (call (.transmit f) (storeTx f s))) ∨
    (∃ ty f, s.initialized = true ∧ typeOfByte a = some ty ∧ encodeFrame s.cfg ty d s.txSequence = some f ∧
      s.xcvr.transmit = .ok ∧
      sendCommand a d s = respondOk (countSent (call (.transmit f) (storeTx f s)))) := by
  unfold sendCommand
  rcases checkInitialized_cases (checkType a (sendWork d)) s with ⟨hi, h⟩ | ⟨hi, h⟩ <;> rw [h]
  · refine .inr ?_
    rcases checkType_cases a (sendWork d) s with ⟨ty, ht, h⟩ | ⟨ht, h⟩ <;> rw [h]
    · refine .inr ?_
      rcases sendWork_cases d ty s with ⟨f, he, h⟩ | ⟨he, h⟩ <;> rw [h]
      · refine .inr ?_
        rcases transmitFrame_cases (storeTx f s) with ⟨hx, h⟩ | ⟨hx, h⟩ <;> rw [h]
        · exact .inr ⟨ty, f, hi, ht, he, hx, rfl⟩
        · exact .inl ⟨ty, f, hi, ht, he, hx, rfl⟩
      · exact .inl ⟨ty, hi, ht, he, rfl⟩
    · exact .inl ⟨hi, ht, rfl⟩
  · exact .inl ⟨hi, rfl⟩

/-! ## RECV (R200) -/

/-- The state in which the decoder reads `RXBUF`, holding the frame `f` (R200 steps 3 and 4). -/
abbrev receivedState (f : Bytes) (s : State) : State := storeRx f (call .receive (call .available s))

/-- Everything RECV can do. -/
theorem recvCommand_cases (a : Byte) (t : U32) (d : Bytes) (s : State) :
    (d ≠ [] ∧ recvCommand a t d s = respondError .invalidParameter s) ∨
    (d = [] ∧ s.initialized = false ∧ recvCommand a t d s = respondError .notInitialized s) ∨
    (d = [] ∧ s.initialized = true ∧ typeOfByte a = none ∧
      recvCommand a t d s = respondError .invalidParameter s) ∨
    (∃ ty, d = [] ∧ s.initialized = true ∧ typeOfByte a = some ty ∧ s.xcvr.available = false ∧
      recvCommand a t d s = finishWithout ty .noData (call .available s)) ∨
    (∃ ty, d = [] ∧ s.initialized = true ∧ typeOfByte a = some ty ∧ s.xcvr.available = true ∧
      s.xcvr.receive = .fail ∧
      recvCommand a t d s = finishWithout ty .hardwareFailure (loseRx (call .receive (call .available s)))) ∨
    (∃ ty f r, d = [] ∧ s.initialized = true ∧ typeOfByte a = some ty ∧ s.xcvr.available = true ∧
      f.length = s.cfg.frameSize ∧ decodeFrame s.cfg f ty (expectedLen s.cfg ty) = .error r ∧
      recvCommand a t d s = finishWithout ty (rejectionStatus r) (countRejection r (receivedState f s))) ∨
    (∃ ty f p, d = [] ∧ s.initialized = true ∧ typeOfByte a = some ty ∧ s.xcvr.available = true ∧
      f.length = s.cfg.frameSize ∧ decodeFrame s.cfg f ty (expectedLen s.cfg ty) = .ok p ∧
      recvCommand a t d s = acceptFrame p t (receivedState f s)) := by
  unfold recvCommand
  rcases checkLength_cases (d.length = 0) (checkInitialized (checkType a (recvWork t))) s with ⟨hd, h⟩ | ⟨hd, h⟩ <;>
    rw [h]
  · have hd : d = [] := by simpa using hd
    refine .inr ?_
    rcases checkInitialized_cases (checkType a (recvWork t)) s with ⟨hi, h⟩ | ⟨hi, h⟩ <;> rw [h]
    · refine .inr ?_
      rcases checkType_cases a (recvWork t) s with ⟨ty, ht, h⟩ | ⟨ht, h⟩ <;> rw [h]
      · refine .inr ?_
        rcases recvWork_cases t ty s with ⟨ha, h⟩ | ⟨ha, hr, h⟩ | ⟨bytes, ha, hr, h⟩ <;> rw [h]
        · exact .inl ⟨ty, hd, hi, ht, ha, rfl⟩
        · exact .inr (.inl ⟨ty, hd, hi, ht, ha, hr, rfl⟩)
        · refine .inr (.inr ?_)
          rcases judgeFrame_cases ty t (receivedState (channel s.cfg.frameSize bytes) s) with ⟨p, hp, h⟩ | ⟨r, hr, h⟩ <;>
            rw [h]
          · exact .inr ⟨ty, _, p, hd, hi, ht, ha, channel_length .., hp, rfl⟩
          · exact .inl ⟨ty, _, r, hd, hi, ht, ha, channel_length .., hr, rfl⟩
      · exact .inl ⟨hd, hi, ht, rfl⟩
    · exact .inl ⟨hd, hi, rfl⟩
  · exact .inl ⟨by simpa using hd, rfl⟩

/-! ## The commands that call no transceiver -/

/-- Everything a command other than SEND and RECV can do: an error that changes nothing, INIT's, UPDATE's or SETFS's effect, or an answer that
changes nothing. -/
theorem exec_otherCommand_cases (i : Instr) (s : State) (h1 : isSend i = false) (h2 : isRecv i = false) :
    (∃ st, exec i s = .next (respondError st s) ∧ st ∉ [Status.ok, .timeout] ∧
      (st = .notInitialized → s.initialized = false ∧
        (isUpdate i = true ∨ isSetfs i = true ∨ ∃ a b t d, i = .getfs a b t d))) ∨
    (isInit i = true ∧ ∃ t, exec i s = .next (respondOk (initSession t s))) ∨
    (isUpdate i = true ∧ s.initialized = true ∧ ∃ t, exec i s = .next (updateWork t s)) ∨
    (isSetfs i = true ∧ s.initialized = true ∧
      ∃ d, d.length = s.cfg.lenCommand ∧ exec i s = .next (respondOk (storeFs d s))) ∨
    (isInit i = false ∧ isUpdate i = false ∧ isSetfs i = false ∧
      ∃ v q, exec i s = .next (respond .ok Info.empty v q s)) := by
  cases i <;> first | (cases h1; done) | (cases h2; done) | skip
  case init a b t d =>
    rw [exec_init]; unfold checkLength; split
    · exact .inr (.inl ⟨rfl, _, rfl⟩)
    · exact .inl ⟨_, rfl, by decide, by simp⟩
  case update a b t d =>
    rw [exec_update]; unfold checkLength checkInitialized; split <;> [split; skip]
    · rename_i h; exact .inr (.inr (.inl ⟨rfl, h, _, rfl⟩))
    · rename_i h; exact .inl ⟨_, rfl, by decide, fun _ => ⟨by simpa using h, .inl rfl⟩⟩
    · exact .inl ⟨_, rfl, by decide, by simp⟩
  case setfs a b t d =>
    rw [exec_setfs]; unfold checkLength checkInitialized; split <;> [split; skip]
    · rename_i h0 h; exact .inr (.inr (.inr (.inl ⟨rfl, h, _, by simpa using h0, rfl⟩)))
    · rename_i h; exact .inl ⟨_, rfl, by decide, fun _ => ⟨by simpa using h, .inr (.inl rfl)⟩⟩
    · exact .inl ⟨_, rfl, by decide, by simp⟩
  case getfs a b t d =>
    rw [exec_getfs]; unfold checkLength checkInitialized; split <;> [split; skip]
    · exact .inr (.inr (.inr (.inr ⟨rfl, rfl, rfl, _, _, rfl⟩)))
    · rename_i h; exact .inl ⟨_, rfl, by decide, fun _ => ⟨by simpa using h, .inr (.inr ⟨_, _, _, _, rfl⟩)⟩⟩
    · exact .inl ⟨_, rfl, by decide, by simp⟩
  case rdreg a b t d =>
    rw [exec_rdreg]; unfold checkLength readWork; split <;> [split; skip]
    · exact .inr (.inr (.inr (.inr ⟨rfl, rfl, rfl, _, _, rfl⟩)))
    · exact .inl ⟨_, rfl, by decide, by simp⟩
    · exact .inl ⟨_, rfl, by decide, by simp⟩
  case crc8 => exact .inr (.inr (.inr (.inr ⟨rfl, rfl, rfl, _, _, rfl⟩)))
  case encode a b t d =>
    rw [exec_encode]; unfold checkType encodeWork; split <;> [split; skip]
    · exact .inr (.inr (.inr (.inr ⟨rfl, rfl, rfl, _, _, rfl⟩)))
    · exact .inl ⟨_, rfl, by decide, by simp⟩
    · exact .inl ⟨_, rfl, by decide, by simp⟩
  case validate a b t d =>
    rw [exec_validate]; unfold checkLength; split
    · exact .inr (.inr (.inr (.inr ⟨rfl, rfl, rfl, _, _, rfl⟩)))
    · exact .inl ⟨_, rfl, by decide, by simp⟩
  case decode a b t d =>
    rw [exec_decode]; unfold checkLength checkType decodeWork; split <;> [(split <;> [split; skip]); skip]
    · exact .inr (.inr (.inr (.inr ⟨rfl, rfl, rfl, _, _, rfl⟩)))
    · rename_i r _; exact .inl ⟨_, rfl, by cases r <;> decide, by cases r <;> simp [rejectionStatus]⟩
    · exact .inl ⟨_, rfl, by decide, by simp⟩
    · exact .inl ⟨_, rfl, by decide, by simp⟩

/-! ## The decoder in the terms of Safety.lean -/

/-- The decoder's answer is that of the first failing test, or the declared payload (R146, R265). -/
theorem decodeFrame_firstFailing (c : Config) (f : Bytes) (ty : PacketType) (el : Nat) :
    match firstFailing c f (typeCode ty) el with
    | some st => ∃ r, decodeFrame c f ty el = .error r ∧ rejectionStatus r = st
    | none => decodeFrame c f ty el = .ok ((f.drop 5).take (f.getD 4 0).toNat) ∧ (f.getD 4 0).toNat = el := by
  have e1 : frameVersion f = f.getD 0 0 := rfl
  have e2 : framePayloadLen f = (f.getD 4 0).toNat := rfl
  have e3 : frameCovered f = f.take (5 + (f.getD 4 0).toNat) := by simp [frameCovered, framePayloadLen, byteAt]
  have e4 : frameChecksum c f = f.getD (c.frameSize - 1) 0 := rfl
  have e5 : frameType f = f.getD 1 0 := rfl
  have e6 : framePayload f = (f.drop 5).take (f.getD 4 0).toNat := rfl
  have e7 : maxPayload c = c.frameSize - 6 := by simp [maxPayload]; omega
  unfold decodeFrame validateReason firstFailing frameTests
  rw [e1, e2, e3, e4, e5, e6, e7]
  generalize (f.drop 5).take (f.getD 4 0).toNat = pl
  generalize crc8 (f.take (5 + (f.getD 4 0).toNat)) = cr
  generalize f.getD (c.frameSize - 1) 0 = ck
  generalize f.getD 1 0 = tt
  generalize (f.getD 4 0).toNat = n
  generalize f.getD 0 0 = v
  by_cases h1 : v = c.protocolVersion
  · by_cases h2 : n ≤ c.frameSize - 6
    · have h2' : ¬ n > c.frameSize - 6 := by omega
      by_cases h3 : cr = ck
      · by_cases h4 : tt = typeCode ty
        · by_cases h5 : n = el
          · subst h5; simp [h1, h2, h3, h4, h2', List.find?]
          · simp [h1, h2, h3, h4, h5, h2', List.find?, rejectionStatus, (beq_eq_false_iff_ne).2 h5]
        · simp [h1, h2, h3, h4, h2', List.find?, rejectionStatus, (beq_eq_false_iff_ne).2 h4]
      · simp [h1, h2, h3, h2', List.find?, rejectionStatus, (beq_eq_false_iff_ne).2 h3]
    · have h2' : n > c.frameSize - 6 := by omega
      simp [h1, h2, h2', List.find?, rejectionStatus]
  · simp [h1, List.find?, rejectionStatus, (beq_eq_false_iff_ne).2 h1]

end Sys2Proof.Machine
end

