-- ==== Sys2Proof/Laws/Memory.lean ====
section
/-!
SUPPORT. Every operation on the buffers keeps them at their sizes (`Memory.wf`), and the state after reset has it.
-/

namespace Sys2Proof.Machine

theorem storeTx_wf {s : State} {f : Bytes} (h : Memory.wf s) (hf : f.length = s.cfg.frameSize) :
    Memory.wf (storeTx f s) := ⟨hf, h.2⟩

theorem storeRx_wf {s : State} {f : Bytes} (h : Memory.wf s) (hf : f.length = s.cfg.frameSize) :
    Memory.wf (storeRx f s) := ⟨h.1, hf, h.2.2⟩

theorem storeFs_wf {s : State} {p : Bytes} (h : Memory.wf s) (hp : p.length = s.cfg.lenCommand) :
    Memory.wf (storeFs p s) := ⟨h.1, h.2.1, hp⟩

theorem loseRx_wf {s : State} (h : Memory.wf s) : Memory.wf (loseRx s) :=
  ⟨h.1, by simp, h.2.2⟩

theorem initSession_wf (t : U32) {s : State} (hc : s.cfg.Legal) : Memory.wf (initSession t s) :=
  ⟨by simp [initSession], by simp [initSession], hc.2.2.2.2.2.2.2.2⟩

theorem resetWith_wf {c : Config} (hc : c.Legal) : Memory.wf (State.resetWith c) :=
  ⟨by simp [State.resetWith], by simp [State.resetWith], hc.2.2.2.2.2.2.2.2⟩

theorem reset_wf : Memory.wf State.reset := resetWith_wf (by decide)

/-- A byte written is the byte read; the other buffers keep theirs. -/
theorem byteAt_storeTx (f : Bytes) (s : State) (i : Nat) : byteAt (storeTx f s).txbuf i = byteAt f i := rfl

theorem byteAt_storeRx (f : Bytes) (s : State) (i : Nat) : byteAt (storeRx f s).rxbuf i = byteAt f i := rfl

theorem byteAt_storeFs (p : Bytes) (s : State) (i : Nat) : byteAt (storeFs p s).fs i = byteAt p i := rfl

end Sys2Proof.Machine
end

