-- ==== Sys2Proof/Laws/PerInstr.lean ====
section
/-!
SUPPORT. Statements made for every command, one lemma per constructor: the opcode byte of a command's words.
-/

namespace Sys2Proof.Laws

/-- The opcode of a command (R99, R109). -/
def opcodeOf : Instr → Byte
  | .init _ _ _ _ => 0x01
  | .send _ _ _ _ => 0x02
  | .recv _ _ _ _ => 0x03
  | .update _ _ _ _ => 0x04
  | .setfs _ _ _ _ => 0x05
  | .getfs _ _ _ _ => 0x06
  | .rdreg _ _ _ _ => 0x07
  | .crc8 _ _ _ _ => 0x10
  | .encode _ _ _ _ => 0x11
  | .validate _ _ _ _ => 0x12
  | .decode _ _ _ _ => 0x13
  | .sendcmd _ _ _ => 0x02
  | .recvtel _ _ _ => 0x03
  | .recvcmd _ _ _ => 0x03
  | .sendtel _ _ _ => 0x02

theorem opField_headerWord (op a b n : Byte) (t : U32) : opField (headerWord op a b n t) = op := by
  apply BitVec.eq_of_getLsbD_eq
  intro i hi
  simp only [opField, headerWord, BitVec.getLsbD_extractLsb', BitVec.getLsbD_append]
  simp [hi]

/-- The words of a command carry its opcode in `C[7:0]` (R91). -/
def OpcodeByte.Statement (i : Instr) : Prop := opField (Sys2Proof.encode i).header = opcodeOf i

theorem OpcodeByte.init (a b : Byte) (t : U32) (d : Bytes) : OpcodeByte.Statement (.init a b t d) :=
  opField_headerWord ..
theorem OpcodeByte.send (a b : Byte) (t : U32) (d : Bytes) : OpcodeByte.Statement (.send a b t d) :=
  opField_headerWord ..
theorem OpcodeByte.recv (a b : Byte) (t : U32) (d : Bytes) : OpcodeByte.Statement (.recv a b t d) :=
  opField_headerWord ..
theorem OpcodeByte.update (a b : Byte) (t : U32) (d : Bytes) : OpcodeByte.Statement (.update a b t d) :=
  opField_headerWord ..
theorem OpcodeByte.setfs (a b : Byte) (t : U32) (d : Bytes) : OpcodeByte.Statement (.setfs a b t d) :=
  opField_headerWord ..
theorem OpcodeByte.getfs (a b : Byte) (t : U32) (d : Bytes) : OpcodeByte.Statement (.getfs a b t d) :=
  opField_headerWord ..
theorem OpcodeByte.rdreg (a b : Byte) (t : U32) (d : Bytes) : OpcodeByte.Statement (.rdreg a b t d) :=
  opField_headerWord ..
theorem OpcodeByte.crc8 (a b : Byte) (t : U32) (d : Bytes) : OpcodeByte.Statement (.crc8 a b t d) :=
  opField_headerWord ..
theorem OpcodeByte.encode (a b : Byte) (t : U32) (d : Bytes) : OpcodeByte.Statement (.encode a b t d) :=
  opField_headerWord ..
theorem OpcodeByte.validate (a b : Byte) (t : U32) (d : Bytes) : OpcodeByte.Statement (.validate a b t d) :=
  opField_headerWord ..
theorem OpcodeByte.decode (a b : Byte) (t : U32) (d : Bytes) : OpcodeByte.Statement (.decode a b t d) :=
  opField_headerWord ..
theorem OpcodeByte.sendcmd (b : Byte) (t : U32) (d : Bytes) : OpcodeByte.Statement (.sendcmd b t d) :=
  opField_headerWord ..
theorem OpcodeByte.recvtel (b : Byte) (t : U32) (d : Bytes) : OpcodeByte.Statement (.recvtel b t d) :=
  opField_headerWord ..
theorem OpcodeByte.recvcmd (b : Byte) (t : U32) (d : Bytes) : OpcodeByte.Statement (.recvcmd b t d) :=
  opField_headerWord ..
theorem OpcodeByte.sendtel (b : Byte) (t : U32) (d : Bytes) : OpcodeByte.Statement (.sendtel b t d) :=
  opField_headerWord ..

end Sys2Proof.Laws
end

