-- ==== Sys2Proof/Tests/Slice0.lean ====
section
/-!
SUPPORT. The author's tests. Expected values are those of spec/95_test_vectors.md (the vector or program step is named at each test)
or are written out from the encoding tables of 30_encoding.md; none is the model's own answer.
-/

namespace Sys2Proof.Tests

-- One kernel evaluation after another: side by side they take a thread and its stack each.
set_option Elab.async false

open Sys2Proof.Machine

/-! ## Named byte strings of 95_test_vectors.md -/

abbrev p18 : Bytes :=
  [0x10, 0x11, 0x12, 0x13, 0x14, 0x15, 0x16, 0x17, 0x18, 0x19, 0x1A, 0x1B, 0x1C, 0x1D, 0x1E, 0x1F, 0x20, 0x21]
abbrev t12 : Bytes := [0xA0, 0xA1, 0xA2, 0xA3, 0xA4, 0xA5, 0xA6, 0xA7, 0xA8, 0xA9, 0xAA, 0xAB]
abbrev dfs : Bytes := List.replicate 16 0x80 ++ [0x00, 0x00]

/-- A frame as the vectors write it: header, payload, filler up to the checksum byte, checksum. -/
abbrev frame (header payload : Bytes) (filler checksum : Byte) : Bytes :=
  header ++ payload ++ List.replicate (26 - payload.length) filler ++ [checksum]

/-- `CMD(s)` and `TEL(s)`, with the checksum from the table of section 3. -/
abbrev cmd (s checksum : Byte) : Bytes := frame [0x01, 0x01, s, 0x00, 0x12] p18 0x00 checksum
abbrev tel (s checksum : Byte) : Bytes := frame [0x01, 0x02, s, 0x00, 0x0C] t12 0x00 checksum

/-- Right after `INIT t=0` (10_state.md section 10). -/
def started (role : Role) : State :=
  { State.resetWith (Config.ref role) with initialized := true, linkActive := true }

/-- The common start of V-F1 to V-F8: ten silent ticks after INIT. -/
def lost (role : Role) : State :=
  { started role with linkActive := false, consecutiveMissed := 10, statMissed := 10 }

/-- The state with what the transceiver is going to answer. -/
def answering (s : State) (tx : TxAnswer) (available : Bool) (rx : RxAnswer) : State :=
  { s with xcvr := ⟨tx, available, rx⟩ }

/-- The next state of an outcome. -/
def after : Host.Outcome State Fault Refusal → Option State
  | .next t => some t
  | _ => none

/-- The response word and data of an outcome (R96). -/
def answer (o : Host.Outcome State Fault Refusal) : Option (Word × Bytes) :=
  ((after o).bind (·.response)).map fun r => (responseWord r, r.q)

/-- One observation of the next state. -/
def seen {α : Type} (o : Host.Outcome State Fault Refusal) (f : State → α) : Option α := (after o).map f

/-! ## Well-formedness refuses -/

theorem test_wellFormed_refuses_256_bytes : (Instr.crc8 0 0 0 (List.replicate 256 0)).wellFormed = false := by decide +kernel
theorem test_wellFormed_accepts_255_bytes : (Instr.crc8 0 0 0 (List.replicate 255 0)).wellFormed = true := by decide +kernel
theorem test_wellFormed_refuses_send_01 : (Instr.send 0x01 0 0 []).wellFormed = false := by decide
theorem test_wellFormed_refuses_recv_02 : (Instr.recv 0x02 0 0 []).wellFormed = false := by decide
theorem test_config_ref_is_built : (Config.build (Config.ref .ground)).isSome = true := by decide
theorem test_config_refuses_frame_of_5 : Config.build { Config.ref .ground with frameSize := 5 } = none := by decide
theorem test_config_refuses_frame_of_256 : Config.build { Config.ref .ground with frameSize := 256 } = none := by decide
theorem test_config_refuses_long_command :
    Config.build { Config.ref .ground with lenCommand := 27, defaultFailsafe := List.replicate 27 0 } = none := by decide
theorem test_config_refuses_long_telemetry :
    Config.build { Config.ref .ground with lenTelemetry := 27 } = none := by decide
theorem test_config_refuses_long_heartbeat :
    Config.build { Config.ref .ground with lenHeartbeat := 27 } = none := by decide
theorem test_config_refuses_long_emergency :
    Config.build { Config.ref .ground with lenEmergency := 27 } = none := by decide
theorem test_config_refuses_threshold_0 :
    Config.build { Config.ref .ground with lossThreshold := 0 } = none := by decide
theorem test_config_refuses_rate_0 : Config.build { Config.ref .ground with updateRateHz := 0 } = none := by decide
theorem test_config_refuses_short_failsafe :
    Config.build { Config.ref .ground with defaultFailsafe := [0x80] } = none := by decide

/-! ## Decoding: the words of the vectors -/

/-- P3 step 1 -/
theorem test_decode_init : decode ⟨0x0000138800000001#64, []⟩ = .ok (.init 0 0 5000 []) := by rfl
/-- V-X17 -/
theorem test_decode_send : decode ⟨0x0000000000000302#64, []⟩ = .ok (.send 0x03 0 0 []) := by rfl
/-- V-X25 -/
theorem test_decode_recv : decode ⟨0x0000001400000303#64, []⟩ = .ok (.recv 0x03 0 20 []) := by rfl
/-- P2 step 2 -/
theorem test_decode_update : decode ⟨0x0000001400000004#64, []⟩ = .ok (.update 0 0 20 []) := by rfl
/-- V-X6 -/
theorem test_decode_setfs :
    decode ⟨0x0000000012000005#64, List.replicate 18 0x7F⟩ = .ok (.setfs 0 0 0 (List.replicate 18 0x7F)) := by rfl
/-- V-X4 -/
theorem test_decode_getfs : decode ⟨0x0000000000000006#64, []⟩ = .ok (.getfs 0 0 0 []) := by rfl
/-- P1 step 8 -/
theorem test_decode_rdreg : decode ⟨0x0000000000000407#64, []⟩ = .ok (.rdreg 0x04 0 0 []) := by rfl
/-- V-X13 -/
theorem test_decode_crc8 : decode ⟨0x0000000002000010#64, [1, 2]⟩ = .ok (.crc8 0 0 0 [1, 2]) := by rfl
/-- V-S1 -/
theorem test_decode_encode : decode ⟨0x00000000122A0111#64, p18⟩ = .ok (.encode 0x01 42 0 p18) := by rfl
/-- P5 step 4 -/
theorem test_decode_validate :
    decode ⟨0x0000000020000012#64, cmd 42 0xDD⟩ = .ok (.validate 0 0 0 (cmd 42 0xDD)) := by rfl
/-- V-S1: `DECODE type=0x01, len=18` (the word of the spec has B = 0x12). -/
theorem test_decode_decode :
    decode ⟨0x0000000020120113#64, cmd 42 0xDD⟩ = .ok (.decode 0x01 18 0 (cmd 42 0xDD)) := by rfl
/-- P4 step 2 -/
theorem test_decode_sendcmd : decode ⟨0x0000000012000102#64, p18⟩ = .ok (.sendcmd 0 0 p18) := by rfl
/-- P4 step 6 -/
theorem test_decode_recvtel : decode ⟨0x0000000A00000203#64, []⟩ = .ok (.recvtel 0 10 []) := by rfl
/-- R110 -/
theorem test_decode_recvcmd : decode ⟨0x0000001400000103#64, []⟩ = .ok (.recvcmd 0 20 []) := by rfl
/-- V-X16 -/
theorem test_decode_sendtel :
    decode ⟨0x000000001A000202#64, List.replicate 26 0xAA⟩ = .ok (.sendtel 0 0 (List.replicate 26 0xAA)) := by rfl
/-- V-X11 -/
theorem test_decode_refuses_08 : decode ⟨0x0000004D00000908#64, []⟩ = .error (.illegalOpcode 0x08) := by rfl
/-- opcode_table.json: the row of RDREG with register 17 (V-X8); a CRC8 row with N = 2, whose data bytes stand above the 64 bits
and so are 0; no command (V-X12). -/
theorem test_decodeTableWord :
    decodeTableWord 64 0x0000000000001107 = some (.rdreg 0x11 0 0 []) ∧
    decodeTableWord 64 0x0000000002000010 = some (.crc8 0 0 0 [0, 0]) ∧
    decodeTableWord 64 0x00000000000000FF = none := by decide

/-! ## Steps on single commands -/

/-- V-X8: the first command after reset, through the fetch. -/
theorem test_withFetchWord_runs :
    answer (step (State.reset.withFetchWord 64 0x0000000000001107)) = some (0x0000002000000000#64, []) := by decide +kernel
/-- V-X11: illegal opcode. -/
theorem test_illegal_opcode :
    answer (step (State.reset.withFetchWord 64 0x0000004D00000908)) = some (0x0000000000000001#64, []) := by decide +kernel

/-- V-X27 -/
theorem test_init_starts_again :
    seen (exec (.init 0 0 999 []) { lost .aircraft with txSequence := 9, statSent := 9, rxValid := true, fs := p18 })
      (fun t => ((t.txSequence, t.statSent, t.statMissed), (t.rxValid, t.lastRxTime, t.linkActive), t.fs)) =
    some ((0, 0, 0), (false, 999, true), dfs) := by decide +kernel
/-- V-X17: the failed frame stays in TXBUF, nothing else moves. -/
theorem test_send_failure :
    seen (exec (.send 0x03 0 0 []) (answering { started .aircraft with txSequence := 1, statSent := 1 } .fail false .fail))
      (fun t => (t.txbuf, t.txSequence, t.statSent, t.response.map (·.st))) =
    some (frame [0x01, 0x03, 0x01, 0x00, 0x00] [] 0x00 0x33, 1, 1, some .hardwareFailure) := by decide +kernel
/-- V-X14 -/
theorem test_send_type_outside :
    answer (exec (.send 0x05 0 0 []) (started .aircraft)) = some (0x0000000000000001#64, []) := by decide +kernel
/-- The first frame after INIT is the baseline (R163); the frame is that of V-C5. -/
theorem test_recv_baseline :
    seen (exec (.recv 0x04 0 20 [])
        (answering (started .aircraft) .fail true (.ok (frame [0x01, 0x04, 0xC8, 0x00, 0x00] [] 0x00 0xE6))))
      (fun t => ((t.rxSequenceLast, t.rxValid, t.lastRxTime), t.statReceived, t.statMissed, t.response.map (·.q))) =
    some ((200, true, 20), 1, 0, some []) := by decide +kernel
/-- V-T6, third step: lost by the timeout at 1001 ms elapsed. -/
theorem test_update_timeout :
    seen (exec (.update 0 0 1101 []) { started .aircraft with lastRxTime := 100, rxValid := true })
      (fun t => (t.consecutiveMissed, t.statMissed, t.linkActive, t.response.map (·.info))) =
    some (1, 1, false, some ⟨false, true, false, false⟩) := by decide +kernel
/-- V-T9, third step: Lost to Active inside UPDATE clears the count. -/
theorem test_update_reacquires :
    seen (exec (.update 0 0 2500 [])
        { started .aircraft with lastRxTime := 2000, linkActive := false, consecutiveMissed := 1, statMissed := 1 })
      (fun t => (t.consecutiveMissed, t.statMissed, t.linkActive, t.response.map (·.info))) =
    some (0, 2, true, some ⟨false, false, true, false⟩) := by decide +kernel
/-- P2 step 18 -/
theorem test_setfs :
    seen (exec (.setfs 0 0 0 (List.replicate 18 0x7F)) (lost .aircraft)) (fun t => (t.fs, t.response.map (·.st))) =
    some (List.replicate 18 0x7F, some .ok) := by decide +kernel
/-- V-X5: `N` before `initialized`. -/
theorem test_setfs_length_first :
    answer (exec (.setfs 0 0 0 (List.replicate 17 0x7F)) State.reset) = some (0x0000000000000001#64, []) := by decide +kernel
/-- V-F11, V-X4 -/
theorem test_getfs :
    answer (exec (.getfs 0 0 0 []) (started .aircraft)) = some (0x0000000000001200#64, dfs) ∧
    answer (exec (.getfs 0 0 0 []) State.reset) = some (0x0000000000000007#64, []) := by decide +kernel
/-- P1 step 10: STATUS with five bits set. -/
theorem test_rdreg_status :
    answer (exec (.rdreg 0 0 0 []) { started .aircraft with rxValid := true, rxSinceTick := true }) =
    some (0x0000003B00000000#64, []) := by decide +kernel
/-- V-X9: unassigned. -/
theorem test_rdreg_unassigned : answer (exec (.rdreg 13 0 0 []) State.reset) = some (0x0000000000000001#64, []) := by
  decide +kernel
/-- V-K12 -/
theorem test_crc8_check :
    answer (exec (.crc8 0 0 0 [0x31, 0x32, 0x33, 0x34, 0x35, 0x36, 0x37, 0x38, 0x39]) State.reset) =
    some (0x000000F400000000#64, []) := by decide +kernel
/-- V-K9, V-K11: leading and trailing zeros. -/
theorem test_crc8_zeros : crc8 [0, 0, 1] = 0x07 ∧ crc8 [1, 0] = 0x15 := by decide +kernel
/-- V-S1 -/
theorem test_encode_command :
    answer (exec (.encode 0x01 42 0 p18) State.reset) = some (0x0000000000002000#64, cmd 42 0xDD) := by decide +kernel
/-- The type before the size (section 3, encoder refusals). -/
theorem test_encode_type_first :
    answer (exec (.encode 0x00 0 0 (List.replicate 27 0)) State.reset) = some (0x0000000000000001#64, []) := by
  decide +kernel
/-- V-C6, V-C10 -/
theorem test_validate :
    answer (exec (.validate 0 0 0 (frame [0x01, 0x01, 0x2A, 0x00, 0x12] p18 0xEE 0xDD)) State.reset) =
      some (0x0000000100000000#64, []) ∧
    answer (exec (.validate 0 0 0 (cmd 42 0x22)) State.reset) = some (0x0000000000000000#64, []) := by decide +kernel
/-- V-C16: type before length. V-C9: length range before checksum. -/
theorem test_decode_order :
    answer (exec (.decode 0x01 18 0 (tel 7 0xBF)) State.reset) = some (0x0000000000000009#64, []) ∧
    answer (exec (.decode 0x01 18 0 (frame [0x01, 0x01, 0x2A, 0x00, 0x1B] p18 0x00 0xDD)) State.reset) =
      some (0x000000000000000A#64, []) := by decide +kernel
/-- V-C14: the flipped length byte, with the shorter length expected. -/
theorem test_decode_short :
    answer (exec (.decode 0x01 16 0 (frame [0x01, 0x01, 0x02, 0x00, 0x10] p18 0x00 0x27)) State.reset) =
    some (0x0000000000001000#64, p18.take 16) := by decide +kernel
/-- V-X28 -/
theorem test_sendcmd_wraps :
    seen (exec (.sendcmd 0 0 p18) (answering { started .ground with txSequence := 255, statSent := 41 } .ok false .fail))
      (fun t => (t.calls, t.txSequence, t.statSent)) = some ([.transmit (cmd 255 0xDA)], 0, 42) := by decide +kernel
/-- P3 step 8: re-acquisition by telemetry. -/
theorem test_recvtel_reacquires :
    seen (exec (.recvtel 0 6010 [])
        (answering { started .ground with lastRxTime := 5000, linkActive := false, consecutiveMissed := 5, statMissed := 5 }
          .fail true (.ok (tel 0 0xBD))))
      (fun t => (t.linkActive, t.consecutiveMissed, t.statMissed, t.response)) =
    some (true, 0, 5, some ⟨.ok, ⟨false, false, true, false⟩, 0, t12⟩) := by decide +kernel
/-- V-T3, fifth step: a repeated number loses the link, and the payload is returned. -/
theorem test_recvcmd_repeated :
    seen (exec (.recvcmd 0 110 [])
        (answering { started .aircraft with
            rxSequenceLast := 2, rxValid := true, lastRxTime := 90, consecutiveMissed := 1, statMissed := 1 }
          .fail true (.ok (cmd 2 0x27))))
      (fun t => (t.consecutiveMissed, t.statMissed, t.linkActive, t.response)) =
    some (11, 11, false, some ⟨.ok, ⟨false, true, false, false⟩, 0, p18⟩) := by decide +kernel
/-- V-F1 and V-F2: the mux, by role. -/
theorem test_recvcmd_mux :
    answer (exec (.recvcmd 0 205 []) (lost .aircraft)) = some (0x0000000000091200#64, dfs) ∧
    answer (exec (.recvcmd 0 205 []) (lost .ground)) = some (0x0000000000000003#64, []) := by decide +kernel
/-- V-X16 -/
theorem test_sendtel :
    seen (exec (.sendtel 0 0 (List.replicate 26 0xAA)) (answering (started .aircraft) .ok false .fail))
      (fun t => (t.calls, t.txSequence, t.statSent)) =
    some ([.transmit (frame [0x01, 0x02, 0x00, 0x00, 0x1A] (List.replicate 26 0xAA) 0x00 0x75)], 1, 1) := by
  decide +kernel

/-! ## Witnesses: states and operands that meet the hypotheses of the statements, at the edges of their ranges -/

/-- A state whose next event is a command with this header and data. -/
def presented (header : Word) (d : Bytes) (s : State) : State :=
  { s with pending := [.command ⟨header, d⟩ s.xcvr] }

/-- A state in which a RECV is going to be handed this frame. -/
def offered (f : Bytes) (s : State) : State := answering s .fail true (.ok f)

/-- `exec i s` is a next state `u` with a response `r`, and they are as `p` says. -/
def answers (i : Instr) (s : State) (p : State → Response → Bool) : Bool :=
  match exec i s with
  | .next u => (u.response.map (p u)).getD false
  | _ => false

theorem witness_DecodeInvertsEncode :
    (Instr.recv 0x03 7 20 []).wellFormed = true ∧ (Instr.decode 0x01 18 0 (List.replicate 255 1)).wellFormed = true := by
  decide +kernel
theorem witness_EncodeInvertsDecode :
    ([0x10, 0x11] : Bytes).length = (nField 0x0000000002000102#64).toNat ∧
    decode ⟨0x0000000002000102#64, [0x10, 0x11]⟩ = .ok (.sendcmd 0 0 [0x10, 0x11]) := ⟨by decide, rfl⟩
theorem witness_WordsAreSumsOfTheirFields :
    (List.replicate 255 (0xFF : Byte)).length ≤ 255 ∧ p18.length = 18 ∧
    (⟨.ok, Info.empty, 0, List.replicate 255 0⟩ : Response).q.length ≤ 255 := by decide +kernel
theorem witness_StepRunsTheDecodedCommand :
    (presented 0x0000001400000103#64 [] State.reset).pending =
      .command ⟨0x0000001400000103#64, []⟩ State.reset.xcvr :: [] ∧
    decode ⟨0x0000001400000103#64, []⟩ = .ok (.recvcmd 0 20 []) := ⟨rfl, rfl⟩
theorem witness_IllegalOpcodesAnswerInvalidParameter :
    (∀ op ∈ [0x00, 0x08, 0x0F, 0x14, 0xFF],
      op % 256 = 0 ∨ (8 ≤ op % 256 ∧ op % 256 ≤ 15) ∨ 20 ≤ op % 256) ∧
    (∀ op ∈ [0x01, 0x07, 0x10, 0x13], (1 ≤ op % 256 ∧ op % 256 ≤ 7) ∨ (16 ≤ op % 256 ∧ op % 256 ≤ 19)) ∧
    ((BitVec.ofNat 64 0xFF).toNat % 256 = 0xFF ∧
      (presented 0x00000000000000FF#64 [] State.reset).pending =
        .command ⟨0x00000000000000FF#64, []⟩ State.reset.xcvr :: []) := ⟨by decide, by decide, by decide, rfl⟩
theorem witness_NothingHappensBetweenCommands : State.reset.pending = [] := rfl
theorem witness_HardwareResetGivesTheResetValues :
    ({ lost .aircraft with pending := [.hardwareReset, .hardwareReset] } : State).pending =
      .hardwareReset :: [.hardwareReset] ∧
    ({ lost .aircraft with pending := [.hardwareReset] } : State).pending = [.hardwareReset] ∧
    (lost .aircraft).cfg = Config.ref .aircraft := ⟨rfl, rfl, rfl⟩
theorem witness_EveryCommandGetsItsResponse :
    (presented 0x00000000000000FF#64 [] State.reset).pending =
      .command ⟨0x00000000000000FF#64, []⟩ State.reset.xcvr :: [] := rfl
theorem witness_IllegalLengthAnswersInvalidParameter :
    ([0] : Bytes) ≠ [] ∧ recvForm 0x02 0 5 [0] (.recvtel 0 5 [0]) ∧ recvForm 0x09 0 5 [0] (.recv 0x09 0 5 [0]) ∧
    (List.replicate 17 (0 : Byte)).length ≠ State.reset.cfg.lenCommand ∧
    (List.replicate 19 (0 : Byte)).length ≠ State.reset.cfg.lenCommand ∧
    (List.replicate 31 (0 : Byte)).length ≠ State.reset.cfg.frameSize ∧
    (List.replicate 33 (0 : Byte)).length ≠ State.reset.cfg.frameSize := by decide +kernel
theorem witness_SessionCommandsNeedInit :
    State.reset.initialized = false ∧ sendForm 0x01 0 0 p18 (.sendcmd 0 0 p18) ∧
    recvForm 0x01 0 0 [] (.recvcmd 0 0 []) ∧ dfs.length = State.reset.cfg.lenCommand := by decide +kernel
theorem witness_SessionCommandsNeedInit_answer :
    answers (.getfs 0 0 0 []) State.reset (fun _ r => r.st = .notInitialized) := by decide +kernel
theorem witness_ChecksumLaws : ([0x12, 0x34] : Bytes).length = ([0xF0, 0x0F] : Bytes).length := rfl
theorem witness_EncodedFramesDecodeToTheirPayload :
    (Config.ref .ground).Legal ∧ (List.replicate 26 (0xAA : Byte)).length ≤ (Config.ref .ground).frameSize - 6 ∧
    ([] : Bytes).length ≤ (Config.ref .ground).frameSize - 6 := by decide +kernel
theorem witness_EncoderRefusesOnlyOversize : 6 ≤ (Config.ref .ground).frameSize := by decide
/-- V-C6: two frames that differ in the tail alone. -/
theorem witness_PayloadTailIsNeverRead :
    (frame [0x01, 0x01, 0x2A, 0x00, 0x12] p18 0xEE 0xDD).take (5 + ((cmd 42 0xDD).getD 4 0).toNat) =
      (cmd 42 0xDD).take (5 + ((cmd 42 0xDD).getD 4 0).toNat) ∧
    (frame [0x01, 0x01, 0x2A, 0x00, 0x12] p18 0xEE 0xDD).getD 31 0 = (cmd 42 0xDD).getD 31 0 ∧
    frame [0x01, 0x01, 0x2A, 0x00, 0x12] p18 0xEE 0xDD ≠ cmd 42 0xDD := by decide +kernel
/-- V-C11: a frame that differs from a valid one in `flags` alone, its checksum covering the value it holds. -/
theorem witness_FlagsNeverCauseARejection :
    (cmd 42 0xDD).length = 32 ∧ (((cmd 42 0xDD).set 3 0x03).set 31 0xA9).length = 32 ∧
    validate (Config.ref .ground) (cmd 42 0xDD) = true ∧
    (((cmd 42 0xDD).set 3 0x03).set 31 0xA9).getD 31 0 =
      crc8 ((((cmd 42 0xDD).set 3 0x03).set 31 0xA9).take
        (5 + ((((cmd 42 0xDD).set 3 0x03).set 31 0xA9).getD 4 0).toNat)) ∧
    ∀ i, i ≠ 3 → i ≠ (Config.ref .ground).frameSize - 1 →
      (((cmd 42 0xDD).set 3 0x03).set 31 0xA9).getD i 0 = (cmd 42 0xDD).getD i 0 := by
  refine ⟨by decide +kernel, by decide +kernel, by decide +kernel, by decide +kernel, fun i h3 h31 => ?_⟩
  have h31 : ¬ 31 = i := fun h => h31 h.symm
  have h3 : ¬ 3 = i := fun h => h3 h.symm
  simp only [List.getD_eq_getElem?_getD, List.getElem?_set, h31, h3, if_false]
theorem witness_SingleBitFlipsAreCaught :
    (Config.ref .ground).Legal ∧ (cmd 42 0xDD).length = (Config.ref .ground).frameSize ∧
    validate (Config.ref .ground) (cmd 42 0xDD) = true ∧ (0x22 : Byte) ≠ (cmd 42 0xDD).getD 31 0 ∧
    (∀ i ∈ [0, 3, 5, 22], i < 4 ∨ (5 ≤ i ∧ i < 5 + ((cmd 42 0xDD).getD 4 0).toNat)) := by decide +kernel
theorem witness_NothingSurvivesInitOrReset :
    (lost .aircraft).cfg = (started .aircraft).cfg ∧
    (∃ u u', exec (.init 0 0 7 []) (lost .aircraft) = .next u ∧ exec (.init 0 0 7 []) (started .aircraft) = .next u') ∧
    ∃ u, step { lost .aircraft with pending := .hardwareReset :: [] } = .next u := ⟨rfl, ⟨_, _, rfl, rfl⟩, _, rfl⟩
theorem witness_SendFollowsItsSteps :
    sendForm 0x03 1 2 [] (.send 0x03 1 2 []) ∧ sendForm 0x01 1 2 p18 (.sendcmd 1 2 p18) ∧
    sendForm 0x02 1 2 t12 (.sendtel 1 2 t12) := by decide
theorem witness_SequenceAndSentCountMoveTogether :
    isInit (.sendcmd 0 0 p18) = false ∧
    answers (.sendcmd 0 0 p18) (answering (started .ground) .ok false .fail) (fun u r => r.st = .ok && u.txSequence = 1) :=
  by decide +kernel
theorem witness_RecvChecksBeforeItPolls :
    recvForm 0x09 0 10 [] (.recv 0x09 0 10 []) ∧ (0x09 : Byte) ∉ [0x01, 0x02, 0x03, 0x04] ∧
    (0x00 : Byte) ∉ [0x01, 0x02, 0x03, 0x04] ∧ (0x05 : Byte) ∉ [0x01, 0x02, 0x03, 0x04] ∧
    State.reset.initialized = false ∧ ([0] : Bytes) ≠ [] := by decide
theorem witness_RecvWithNothingWaiting :
    recvForm (typeCode .command) 0 205 [] (.recvcmd 0 205 []) ∧ recvForm (typeCode .heartbeat) 0 205 [] (.recv 0x03 0 205 []) ∧
    (∀ role ∈ [Role.aircraft, Role.ground], (lost role).initialized = true ∧ (lost role).xcvr.available = false) ∧
    (started .aircraft).initialized = true ∧ (started .aircraft).xcvr.available = false := by decide
theorem witness_RecvAfterAFailedReceive :
    recvForm (typeCode .command) 0 205 [] (.recvcmd 0 205 []) ∧
    (∀ s ∈ [lost .aircraft, started .aircraft], (answering s .fail true .fail).initialized = true ∧
      (answering s .fail true .fail).xcvr.available = true ∧ (answering s .fail true .fail).xcvr.receive = .fail) := by
  decide
/-- V-X23 or V-C7, V-X24 or V-C9, V-C10, V-X21, V-X22: a frame for each of the five tests. -/
theorem witness_RecvRejectsAFaultyFrame :
    recvForm (typeCode .command) 0 14 [] (.recvcmd 0 14 []) ∧
    ∀ s ∈ [lost .aircraft, started .aircraft, lost .ground],
    ∀ p ∈ [(frame [0x02, 0x01, 0x2A, 0x00, 0x12] p18 0x00 0x11, Status.versionMismatch),
      (frame [0x01, 0x01, 0x2A, 0x00, 0x1B] p18 0x00 0xDD, .lengthMismatch), (cmd 42 0x22, .checksumFailure),
      (tel 7 0xBF, .typeMismatch), (frame [0x01, 0x01, 0x07, 0x00, 0x0C] t12 0x00 0xB9, .lengthMismatch)],
      (offered p.1 s).initialized = true ∧ (offered p.1 s).xcvr.available = true ∧
      (offered p.1 s).xcvr.receive = .ok p.1 ∧ p.1.length = s.cfg.frameSize ∧
      firstFailing s.cfg p.1 (typeCode .command) (expectedLen s.cfg .command) = some p.2 := by decide +kernel
/-- A first frame, a frame in order, a gap of 254, and a re-acquisition. -/
theorem witness_RecvAcceptsAGoodFrame :
    recvForm (typeCode .command) 0 90 [] (.recvcmd 0 90 []) ∧
    ∀ s ∈ [started .aircraft, { started .aircraft with rxValid := true, rxSequenceLast := 6 },
        { started .aircraft with rxValid := true, rxSequenceLast := 8 }, { lost .aircraft with rxValid := true }],
      (offered (cmd 7 0xFA) s).initialized = true ∧ (offered (cmd 7 0xFA) s).xcvr.available = true ∧
      (offered (cmd 7 0xFA) s).xcvr.receive = .ok (cmd 7 0xFA) ∧ (cmd 7 0xFA).length = s.cfg.frameSize ∧
      firstFailing s.cfg (cmd 7 0xFA) (typeCode .command) (expectedLen s.cfg .command) = none := by decide +kernel
theorem witness_PayloadsAreNeitherCutNorPadded :
    recvForm (typeCode .command) 0 90 [] (.recvcmd 0 90 []) ∧
    answers (.recvcmd 0 90 []) (offered (cmd 7 0xFA) (started .aircraft)) (fun _ r => accepted r) ∧
    answers (.decode 0x01 18 0 (cmd 7 0xFA)) State.reset (fun _ r => r.st = .ok) ∧
    answers (.decode 0x01 17 0 (cmd 7 0xFA)) State.reset (fun _ r => r.st = .lengthMismatch) := by decide +kernel
theorem witness_RdregReadsTheRegisterTable :
    (0x00, 35) ∈ registerTable (started .aircraft) ∧ (0x0C, 0) ∈ registerTable State.reset ∧
    (0x10, 1) ∈ registerTable State.reset ∧ (0x12, 26) ∈ registerTable State.reset ∧
    (0x19, 0) ∈ registerTable State.reset ∧
    ∀ a ∈ [0x0D, 0x0F, 0x1A, 0xFF], a ∉ (registerTable State.reset).map (·.1) := by decide +kernel
theorem witness_RepeatedSubstitutionChangesNothing :
    recvForm 0x01 0 205 [] (.recvcmd 0 205 []) ∧ recvForm 0x01 9 206 [] (.recv 0x01 9 206 []) ∧
    (lost .aircraft).initialized = true ∧ (lost .aircraft).cfg.role = .aircraft ∧ (lost .aircraft).linkActive = false ∧
    (lost .aircraft).xcvr.available = false ∧ ∃ u, exec (.recvcmd 0 205 []) (lost .aircraft) = .next u :=
  ⟨by decide, by decide, rfl, rfl, rfl, rfl, _, rfl⟩
theorem witness_FailsafeFlagFollowsTheMux :
    answers (.recvcmd 0 205 []) (lost .aircraft) (fun u _ => u.failsafeActive = true) ∧
    answers (.recvcmd 0 205 []) (offered (cmd 7 0xFA) { lost .aircraft with failsafeActive := true })
      (fun u r => !u.failsafeActive && accepted r) ∧
    answers (.init 0 0 0 []) { lost .aircraft with failsafeActive := true } (fun u _ => u.failsafeActive = false) :=
  by decide +kernel
theorem witness_EvalLinkFollowsTheTransitionRule :
    1 ≤ (started .aircraft).cfg.lossThreshold.toNat ∧
    1 ≤ ({ started .aircraft with cfg := { Config.ref .ground with lossThreshold := 1 } } : State).cfg.lossThreshold.toNat := by
  decide
theorem witness_QualityIsThePercentage :
    (3 : U32).toNat ≤ (3 : U32).toNat ∧ (2 : U32).toNat < (3 : U32).toNat ∧
    (1 : U32).toNat < (4294967295 : U32).toNat := by decide
theorem witness_OnlyReceptionAndTicksMoveTheTracker :
    answers (.send 0x03 0 0 []) (answering (started .ground) .ok false .fail) (fun _ _ => true) ∧
    answers (.recvcmd 0 205 []) (lost .aircraft) (fun _ r => !accepted r) ∧
    answers (.recvcmd 0 205 []) (offered (cmd 42 0x22) (started .aircraft)) (fun _ r => !accepted r) := by decide +kernel
/-- Ten ticks, the threshold, with `T` up to the timeout itself. -/
theorem witness_SilentTicksLoseTheLinkAtTheThreshold :
    (started .aircraft).initialized = true ∧ (started .aircraft).linkActive = true ∧
    (started .aircraft).rxSinceTick = false ∧
    (started .aircraft).consecutiveMissed.toNat < (started .aircraft).cfg.lossThreshold.toNat ∧
    (∀ t ∈ ([100, 200, 300, 400, 500, 600, 700, 800, 900, 1000] : List U32),
      elapsed t (started .aircraft).lastRxTime ≤ (started .aircraft).cfg.linkTimeoutMs.toNat) ∧
    (started .aircraft).cfg.lossThreshold.toNat ≤ (started .aircraft).consecutiveMissed.toNat + 10 ∧
    (started .aircraft).cfg.role = .aircraft ∧ (started .aircraft).xcvr.available = false := by
  refine ⟨rfl, rfl, rfl, by decide, ?_, by decide, rfl, rfl⟩
  simp [elapsed, started, State.resetWith, Config.ref]
theorem witness_ErrorsCarryNothingAndWriteNoSuccess :
    answers (.sendcmd 0 0 p18) (answering (started .ground) .fail false .fail) (fun _ r => r.st ≠ .ok) ∧
    answers (.recvtel 0 0 []) (answering (started .ground) .fail true .fail) (fun _ r => r.st ≠ .ok) ∧
    (∀ f ∈ [frame [0x02, 0x01, 0x2A, 0x00, 0x12] p18 0x00 0x11, frame [0x01, 0x01, 0x2A, 0x00, 0x1B] p18 0x00 0xDD,
        cmd 42 0x22, tel 7 0xBF],
      ((after (exec (.recvcmd 0 5 []) (offered f (started .aircraft)))).bind (·.response)).map (·.st) ≠ some .ok) :=
  by decide +kernel
theorem witness_TimeoutIsNeverAnswered :
    answers (.getfs 0 0 0 []) State.reset (fun _ r => r.st = .notInitialized) := by decide +kernel
theorem witness_EventBitsSayWhatChanged :
    answers (.update 0 0 20 []) { started .aircraft with consecutiveMissed := 9 } (fun _ r => r.info.lostEv = true) ∧
    answers (.recvcmd 0 205 []) (offered (cmd 7 0xFA) (lost .aircraft)) (fun _ r => r.info.upEv = true) ∧
    answers (.recvcmd 0 205 []) (lost .aircraft) (fun _ r => r.info.fs && r.info.fsEv) ∧
    answers (.crc8 0 0 0 []) State.reset (fun _ r => r.info = Info.empty) := by decide +kernel
theorem witness_TransceiverCallsAreOrdered :
    answers (.sendcmd 0 0 p18) (started .ground) (fun u _ => u.calls = [.transmit u.txbuf]) ∧
    answers (.recvtel 0 0 []) (started .ground) (fun u _ => u.calls = [.available]) ∧
    answers (.recvtel 0 0 []) (offered (tel 7 0xBF) (started .ground)) (fun u _ => u.calls = [.available, .receive]) :=
  by decide +kernel
theorem witness_ReadingCommandsAreIdempotent :
    ∀ i ∈ [Instr.crc8 0 0 0 p18, .encode 0x01 0 0 p18, .validate 0 0 0 p18, .decode 0x01 18 0 (cmd 42 0xDD), .rdreg 5 0 0 [],
        .getfs 0 0 0 []],
      (after (exec i (lost .aircraft))).isSome = true := by decide +kernel
theorem witness_OnlyTheNamedCommandsWrite :
    answers (.rdreg 0 0 0 []) (lost .aircraft) (fun _ _ => true) ∧
    ∀ p ∈ [isInit, isSend, isRecv, isUpdate, isSetfs], p (.rdreg 0 0 0 []) = false := by decide +kernel
theorem witness_CountersNeverDecrease :
    isInit (.update 0 0 20 []) = false ∧
    answers (.update 0 0 20 []) { started .aircraft with statMissed := 4294967295 }
      (fun u _ => u.statMissed = 4294967295) := by decide +kernel
theorem witness_ParametersNeverChange : ∃ u, step (presented 0x0000000000000001#64 [] (lost .ground)) = .next u := ⟨_, rfl⟩
theorem witness_InvariantHoldsAfterReset :
    (Config.ref .ground).Legal ∧
    ({ Config.ref .ground with
        frameSize := 6, lenCommand := 0, lenTelemetry := 0, lossThreshold := 1, defaultFailsafe := [] } : Config).Legal ∧
    ({ Config.ref .ground with frameSize := 255, lenEmergency := 249, lossThreshold := 65535 } : Config).Legal := by
  decide
/-- A session with a waiting INIT: not a reset state. -/
theorem witness_EveryStepKeepsTheInvariant :
    State.Inv (presented 0x0000000000000001#64 [] (lost .aircraft)) ∧
    ∃ u, step (presented 0x0000000000000001#64 [] (lost .aircraft)) = .next u :=
  ⟨⟨by decide, by decide +kernel, .inl rfl, by decide, by decide, by decide, by decide, by decide, by decide, by decide,
    by decide, fun h => by cases h⟩, _, rfl⟩

end Sys2Proof.Tests
end

section
/-!
PROOFS. The family 00_scope.md: what one step of the machine can do, and that no operation, no command and no step changes a
parameter (R6).
-/

namespace Sys2Proof.Machine

/-! ## One step, by the next event (R15, R70, R90, R100, R270, R290) -/

theorem step_idle {s : State} (h : s.pending = []) : step s = .next s := by
  simp [step, h]

theorem step_hardwareReset {s : State} {rest : List Event} (h : s.pending = .hardwareReset :: rest) :
    step s = .next (hardwareReset { s with pending := rest }) := by
  simp [step, h]

theorem step_decoded {s : State} {c : Command} {x : XcvrAnswers} {rest : List Event} {i : Instr}
    (h : s.pending = .command c x :: rest) (hd : decode c = .ok i) : step s = exec i (accept x rest s) := by
  simp [step, h, hd]

theorem step_illegal {s : State} {c : Command} {x : XcvrAnswers} {rest : List Event} {e : DecodeError}
    (h : s.pending = .command c x :: rest) (hd : decode c = .error e) :
    step s = .next (illegalCommand (accept x rest s)) := by
  cases e
  simp [step, h, hd]

/-- Everything a step can do: nothing, a hardware reset, a decoded command, or the answer to an illegal `OP`. -/
theorem step_cases (s : State) :
    (s.pending = [] ∧ step s = .next s) ∨
    (∃ rest, s.pending = .hardwareReset :: rest ∧ step s = .next (hardwareReset { s with pending := rest })) ∨
    (∃ c x rest i, s.pending = .command c x :: rest ∧ decode c = .ok i ∧ step s = exec i (accept x rest s)) ∨
    (∃ c x rest e, s.pending = .command c x :: rest ∧ decode c = .error e ∧
      step s = .next (illegalCommand (accept x rest s))) := by
  cases hp : s.pending with
  | nil => exact .inl ⟨rfl, step_idle hp⟩
  | cons ev rest =>
    refine .inr ?_
    cases ev with
    | hardwareReset => exact .inl ⟨rest, rfl, step_hardwareReset hp⟩
    | command c x =>
      refine .inr ?_
      cases hd : decode c with
      | ok i => exact .inl ⟨c, x, rest, i, rfl, hd, step_decoded hp hd⟩
      | error e => exact .inr ⟨c, x, rest, e, rfl, hd, step_illegal hp hd⟩

/-- Settles O6: the state after `accept` is the one the statement writes out. -/
theorem stepRunsTheDecodedCommand : Obligations.StepRunsTheDecodedCommand := by
  intro s c x rest i hp hd
  exact step_decoded hp hd

/-! ## The parameters under the composite operations (R6) -/

@[simp] theorem hardwareReset_cfg (s : State) : (hardwareReset s).cfg = s.cfg := rfl

@[simp] theorem evalLink_cfg (t : U32) (s : State) : (evalLink t s).2.cfg = s.cfg := rfl

@[simp] theorem countGap_cfg (seq : Byte) (s : State) : (countGap seq s).cfg = s.cfg := by
  rcases countGap_cases seq s with ⟨-, -, -, h⟩ | ⟨-, h⟩ <;> simp [h]

@[simp] theorem observe_cfg (seq : Byte) (t : U32) (s : State) : (observe seq t s).2.cfg = s.cfg := by
  simp [observe]

@[simp] theorem countTick_cfg (s : State) : (countTick s).cfg = s.cfg := by
  rcases countTick_cases s with ⟨-, h⟩ | ⟨-, h⟩ <;> simp [h]

@[simp] theorem updateWork_cfg (t : U32) (s : State) : (updateWork t s).cfg = s.cfg := by
  simp [updateWork]

@[simp] theorem acceptFrame_cfg (p : Bytes) (t : U32) (s : State) : (acceptFrame p t s).cfg = s.cfg := by
  simp [acceptFrame]

@[simp] theorem finishWithout_cfg (ty : PacketType) (out : Status) (s : State) :
    (finishWithout ty out s).cfg = s.cfg := by
  rcases finishWithout_cases ty out s with ⟨-, h⟩ | ⟨-, h⟩ <;> simp [h]

@[simp] theorem sendCommand_cfg (a : Byte) (d : Bytes) (s : State) : (sendCommand a d s).cfg = s.cfg := by
  rcases sendCommand_cases a d s with
    ⟨-, h⟩ | ⟨-, -, h⟩ | ⟨_, -, -, -, h⟩ | ⟨_, _, -, -, -, -, h⟩ | ⟨_, _, -, -, -, -, h⟩ <;> simp [h]

@[simp] theorem recvCommand_cfg (a : Byte) (t : U32) (d : Bytes) (s : State) :
    (recvCommand a t d s).cfg = s.cfg := by
  rcases recvCommand_cases a t d s with
    ⟨-, h⟩ | ⟨-, -, h⟩ | ⟨-, -, -, h⟩ | ⟨_, -, -, -, -, h⟩ | ⟨_, -, -, -, -, -, h⟩ |
    ⟨_, _, _, -, -, -, -, -, -, h⟩ | ⟨_, _, _, -, -, -, -, -, -, h⟩ <;> simp [h]

/-! ## The parameters under every command and every step (R6) -/

/-- Every command answers a next state, and that state has the parameters of the one before (R6, R276). -/
theorem exec_eq_next_cfg (i : Instr) (s : State) : ∃ u, exec i s = .next u ∧ u.cfg = s.cfg := by
  cases hs : isSend i
  case true =>
    obtain ⟨a, b, t, d, hf⟩ := exists_sendForm hs
    exact ⟨_, exec_of_sendForm hf s, sendCommand_cfg a d s⟩
  case false =>
    cases hr : isRecv i
    case true =>
      obtain ⟨a, b, t, d, hf⟩ := exists_recvForm hr
      exact ⟨_, exec_of_recvForm hf s, recvCommand_cfg a t d s⟩
    case false =>
      rcases exec_otherCommand_cases i s hs hr with
        ⟨st, h, -⟩ | ⟨-, t, h⟩ | ⟨-, -, t, h⟩ | ⟨-, -, d, -, h⟩ | ⟨-, -, -, v, q, h⟩
      · exact ⟨_, h, respond_cfg ..⟩
      · exact ⟨_, h, initSession_cfg t s⟩
      · exact ⟨_, h, updateWork_cfg t s⟩
      · exact ⟨_, h, storeFs_cfg d s⟩
      · exact ⟨_, h, respond_cfg ..⟩

theorem exec_cfg {i : Instr} {s u : State} (h : exec i s = .next u) : u.cfg = s.cfg := by
  obtain ⟨v, hv, hcfg⟩ := exec_eq_next_cfg i s
  cases hv.symm.trans h
  exact hcfg

/-- Settles O56, by the kinds of step. -/
theorem parametersNeverChange : Obligations.ParametersNeverChange := by
  intro s u hu
  rcases step_cases s with ⟨-, h⟩ | ⟨rest, -, h⟩ | ⟨c, x, rest, i, -, -, h⟩ | ⟨c, x, rest, e, -, -, h⟩ <;>
    rw [h] at hu
  · cases hu; rfl
  · cases hu; exact hardwareReset_cfg _
  · exact (exec_cfg hu).trans (accept_cfg x rest s)
  · cases hu; simp

end Sys2Proof.Machine
end

section
/-!
PROOFS. The family 10_state.md: every effect a command can have on the state, said once, and what follows from it: who writes
`failsafe_active` (R29), who writes what (section 11), and that the counters never decrease (section 5).
-/

namespace Sys2Proof.Machine

/-! ## The counters saturate and never go back (R32 to R38) -/

theorem le_satAdd32 (x : U32) (m : Nat) : x.toNat ≤ (satAdd32 x m).toNat := by
  rw [satAdd32_toNat]; omega

/-- The counter of the frames rejected for a reason (R207). -/
def rejectionCount (s : State) : Rejection → U32
  | .checksumFailure => s.statCrcFail
  | .versionMismatch => s.statVerMismatch
  | .typeMismatch => s.statTypeMismatch
  | .lengthMismatch => s.statLenError

theorem rejectionCount_countRejection (r k : Rejection) (s : State) :
    rejectionCount (countRejection r s) k =
      if r = k then satAdd32 (rejectionCount s k) 1 else rejectionCount s k := by
  cases k <;> simp [rejectionCount]

theorem rejectionCount_le_countRejection (r k : Rejection) (s : State) :
    (rejectionCount s k).toNat ≤ (rejectionCount (countRejection r s) k).toNat := by
  rw [rejectionCount_countRejection]
  split
  · exact le_satAdd32 ..
  · exact le_rfl

/-- Counters that are bounded reason by reason are bounded one by one. -/
theorem rejectionCounts_le {s : State} {c : Rejection → U32} (h : ∀ r, (rejectionCount s r).toNat ≤ (c r).toNat) :
    s.statCrcFail.toNat ≤ (c .checksumFailure).toNat ∧ s.statVerMismatch.toNat ≤ (c .versionMismatch).toNat ∧
    s.statTypeMismatch.toNat ≤ (c .typeMismatch).toNat ∧ s.statLenError.toNat ≤ (c .lengthMismatch).toNat :=
  ⟨h .checksumFailure, h .versionMismatch, h .typeMismatch, h .lengthMismatch⟩

/-! ## The fields a composite operation writes -/

/-- `s` after the calls `k` of a RECV that accepted no frame: `RXBUF`, the count of free values and the counters of
rejected frames may have moved (R200 to R207). -/
def withoutFrame (k : List XcvrCall) (f : Bytes) (n : Nat) (c : Rejection → U32) (s : State) : State :=
  { s with
    calls := k
    rxbuf := f
    freeCount := n
    statCrcFail := c .checksumFailure
    statVerMismatch := c .versionMismatch
    statTypeMismatch := c .typeMismatch
    statLenError := c .lengthMismatch }

theorem countRejection_receivedState_eq (r : Rejection) (f : Bytes) (s : State) :
    countRejection r (receivedState f s) =
      withoutFrame (s.calls ++ [.available] ++ [.receive]) f s.freeCount (rejectionCount (countRejection r s)) s := by
  cases r <;> rfl

theorem countGap_eq (seq : Byte) (s : State) : ∃ m n, s.statMissed.toNat ≤ n.toNat ∧
    countGap seq s = { s with consecutiveMissed := m, statMissed := n } := by
  rcases countGap_cases seq s with ⟨-, -, -, h⟩ | ⟨-, h⟩
  · exact ⟨_, _, le_satAdd32 .., h⟩
  · exact ⟨_, _, le_rfl, h⟩

theorem acceptFrame_eq (p : Bytes) (t : U32) (s : State) : ∃ m n b info, s.statMissed.toNat ≤ n.toNat ∧
    info.fs = false ∧
    acceptFrame p t s = { s with
      rxSequenceLast := frameSequence s.rxbuf, lastRxTime := t, rxValid := true, rxSinceTick := true
      consecutiveMissed := m, statMissed := n, linkActive := b, failsafeActive := false
      statReceived := satAdd32 s.statReceived 1, response := some ⟨.ok, info, 0, p⟩ } := by
  obtain ⟨m, n, hn, h⟩ := countGap_eq (frameSequence s.rxbuf) s
  unfold acceptFrame observe
  rw [h]
  exact ⟨_, n, _, _, hn, rfl, rfl⟩

theorem countTick_eq (s : State) : ∃ m n, s.statMissed.toNat ≤ n.toNat ∧
    countTick s = { s with rxSinceTick := false, consecutiveMissed := m, statMissed := n } := by
  rcases countTick_cases s with ⟨-, h⟩ | ⟨hs, h⟩
  · exact ⟨_, _, le_rfl, h⟩
  · exact ⟨_, _, le_satAdd32 s.statMissed 1, by rw [h, ← hs]; rfl⟩

theorem updateWork_eq (t : U32) (s : State) : ∃ m n b q r, s.statMissed.toNat ≤ n.toNat ∧
    updateWork t s = { s with
      rxSinceTick := false, consecutiveMissed := m, statMissed := n, linkActive := b, linkQuality := q
      response := some r } := by
  obtain ⟨m, n, hn, h⟩ := countTick_eq s
  unfold updateWork
  rw [h]
  exact ⟨_, n, _, _, _, hn, rfl⟩

/-! ## Every effect of a command -/

/-- What a command can make of the state: one case for each way a command ends, with the fields it writes. -/
inductive Effect (i : Instr) (s : State) : State → Prop
  /-- A response and nothing else; for RECV, that of a failed check. -/
  | answered (r : Response) (hr : isRecv i = true → accepted r = false) : Effect i s { s with response := some r }
  /-- INIT (R190). -/
  | initialized (t : U32) (hi : isInit i = true) : Effect i s (respondOk (initSession t s))
  /-- SEND that handed a frame over, transmitted or not (R195, R196). -/
  | sent (n : Byte) (c : U32) (f : Bytes) (k : List XcvrCall) (r : Response) (hi : isSend i = true)
      (hc : s.statSent.toNat ≤ c.toNat) :
      Effect i s { s with txSequence := n, statSent := c, txbuf := f, calls := k, response := some r }
  /-- UPDATE (R170). -/
  | ticked (m : U16) (n : U32) (b : Bool) (q : Byte) (r : Response) (hi : isUpdate i = true)
      (hn : s.statMissed.toNat ≤ n.toNat) :
      Effect i s { s with
        rxSinceTick := false, consecutiveMissed := m, statMissed := n, linkActive := b, linkQuality := q
        response := some r }
  /-- SETFS (R235). -/
  | failsafeStored (p : Bytes) (hi : isSetfs i = true) : Effect i s (respondOk (storeFs p s))
  /-- RECV that accepted no frame and relays why (R200 step 8). -/
  | relayed (k : List XcvrCall) (f : Bytes) (n : Nat) (c : Rejection → U32) (out : Status) (hi : isRecv i = true)
      (hc : ∀ r, (rejectionCount s r).toNat ≤ (c r).toNat) (hout : out ≠ .ok) :
      Effect i s (respondError out (withoutFrame k f n c s))
  /-- RECV that accepted no frame and was answered by the mux (R230). -/
  | substituted (k : List XcvrCall) (f : Bytes) (n : Nat) (c : Rejection → U32) (hi : isRecv i = true)
      (hc : ∀ r, (rejectionCount s r).toNat ≤ (c r).toNat) (hrole : s.cfg.role = .aircraft)
      (hlost : s.linkActive = false) : Effect i s (substitute (withoutFrame k f n c s))
  /-- RECV that accepted a frame (R206). -/
  | received (k : List XcvrCall) (f : Bytes) (seq : Byte) (t : U32) (m : U16) (n : U32) (b : Bool) (info : Info)
      (p : Bytes) (hi : isRecv i = true) (hn : s.statMissed.toNat ≤ n.toNat) (hinfo : info.fs = false) :
      Effect i s { s with
        calls := k, rxbuf := f
        rxSequenceLast := seq, lastRxTime := t, rxValid := true, rxSinceTick := true
        consecutiveMissed := m, statMissed := n, linkActive := b, failsafeActive := false
        statReceived := satAdd32 s.statReceived 1, response := some ⟨.ok, info, 0, p⟩ }

theorem isRecv_eq_false {i : Instr} (h : isSend i = true ∨ isUpdate i = true ∨ isSetfs i = true) : isRecv i = false := by
  cases i <;> simp [isSend, isUpdate, isSetfs] at h <;> rfl

/-- An error that a check answers is no accepted frame. -/
theorem effect_respondError (i : Instr) (s : State) {st : Status} (h : st ≠ .ok) : Effect i s (respondError st s) :=
  .answered _ fun _ => by simp [accepted, h]

theorem effect_sendCommand {i : Instr} (hi : isSend i = true) (a : Byte) (d : Bytes) (s : State) :
    Effect i s (sendCommand a d s) := by
  rcases sendCommand_cases a d s with
    ⟨-, h⟩ | ⟨-, -, h⟩ | ⟨_, -, -, -, h⟩ | ⟨_, _, -, -, -, -, h⟩ | ⟨_, _, -, -, -, -, h⟩ <;> rw [h]
  · exact effect_respondError i s (by decide)
  · exact effect_respondError i s (by decide)
  · exact effect_respondError i s (by decide)
  · exact .sent _ _ _ _ _ hi le_rfl
  · exact .sent _ _ _ _ _ hi (le_satAdd32 s.statSent 1)

theorem effect_finishWithout {i : Instr} (hi : isRecv i = true) (ty : PacketType) {out : Status} (hout : out ≠ .ok)
    {k : List XcvrCall} {f : Bytes} {n : Nat} {c : Rejection → U32} {s : State}
    (hc : ∀ r, (rejectionCount s r).toNat ≤ (c r).toNat) :
    Effect i s (finishWithout ty out (withoutFrame k f n c s)) := by
  rcases finishWithout_cases ty out (withoutFrame k f n c s) with ⟨hm, h⟩ | ⟨-, h⟩ <;> rw [h]
  · obtain ⟨hrole, -, hlost⟩ := (muxApplies_iff ..).1 hm
    exact .substituted k f n c hi hc hrole hlost
  · exact .relayed k f n c out hi hc hout

theorem effect_recvCommand {i : Instr} (hi : isRecv i = true) (a : Byte) (t : U32) (d : Bytes) (s : State) :
    Effect i s (recvCommand a t d s) := by
  rcases recvCommand_cases a t d s with
    ⟨-, h⟩ | ⟨-, -, h⟩ | ⟨-, -, -, h⟩ | ⟨ty, -, -, -, -, h⟩ | ⟨ty, -, -, -, -, -, h⟩ |
    ⟨ty, f, r, -, -, -, -, -, -, h⟩ | ⟨_, f, p, -, -, -, -, -, -, h⟩ <;> rw [h]
  · exact effect_respondError i s (by decide)
  · exact effect_respondError i s (by decide)
  · exact effect_respondError i s (by decide)
  · exact effect_finishWithout hi ty (by decide) (n := s.freeCount) (c := rejectionCount s) fun _ => le_rfl
  · exact effect_finishWithout hi ty (by decide) (n := s.freeCount + 1) (c := rejectionCount s) fun _ => le_rfl
  · rw [countRejection_receivedState_eq]
    exact effect_finishWithout hi ty (by cases r <;> decide) fun k => rejectionCount_le_countRejection r k s
  · obtain ⟨m, n, b, info, hn, hinfo, h⟩ := acceptFrame_eq p t (receivedState f s)
    rw [h]
    exact .received _ f _ t m n b info p hi hn hinfo

/-- Every command has one of the effects. -/
theorem exec_effect {i : Instr} {s u : State} (hu : exec i s = .next u) : Effect i s u := by
  cases hs : isSend i
  case true =>
    obtain ⟨a, b, t, d, hf⟩ := exists_sendForm hs
    cases (exec_of_sendForm hf s).symm.trans hu
    exact effect_sendCommand hs a d s
  case false =>
    cases hr : isRecv i
    case true =>
      obtain ⟨a, b, t, d, hf⟩ := exists_recvForm hr
      cases (exec_of_recvForm hf s).symm.trans hu
      exact effect_recvCommand hr a t d s
    case false =>
      rcases exec_otherCommand_cases i s hs hr with
        ⟨st, h, hst, -⟩ | ⟨hi, t, h⟩ | ⟨hi, -, t, h⟩ | ⟨hi, -, d, -, h⟩ | ⟨-, -, -, v, q, h⟩ <;>
        cases h.symm.trans hu
      · exact effect_respondError i s fun he => hst (by simp [he])
      · exact .initialized t hi
      · obtain ⟨m, n, b, q, r, hn, h⟩ := updateWork_eq t s
        rw [h]
        exact .ticked m n b q r hi hn
      · exact .failsafeStored d hi
      · exact .answered _ fun h => by simp [hr] at h

/-! ## What follows from the effects -/

/-- Settles O42: of the effects, a substitution alone sets the flag, INIT and an accepted frame alone clear it, and no
other response of RECV is an accepted one. -/
theorem failsafeFlagFollowsTheMux : Obligations.FailsafeFlagFollowsTheMux := by
  intro i s u hu
  cases exec_effect hu with
  | answered r hr => simp +contextual [hr]
  | initialized t hi => simp [hi]
  | sent n c f k r hi => simp +contextual [isRecv_eq_false (.inl hi)]
  | ticked m n b q r hi => simp +contextual [isRecv_eq_false (.inr (.inl hi))]
  | failsafeStored p hi => simp +contextual [isRecv_eq_false (.inr (.inr hi))]
  | relayed k f n c out hi hc hout => simp +contextual [withoutFrame, accepted, hout]
  | substituted k f n c hi hc hrole hlost => simp +contextual [withoutFrame, accepted, hi, hrole, hlost]
  | received k f seq t m n b info p hi hn hinfo => simp [accepted, hi, hinfo]

/-- Settles O54: each effect writes the fields of its own command only. -/
theorem onlyTheNamedCommandsWrite : Obligations.OnlyTheNamedCommandsWrite := by
  intro i s u hu
  cases exec_effect hu with
  | answered => simp
  | initialized t hi => simp [hi]
  | sent n c f k r hi => simp [hi]
  | ticked m n b q r hi => simp [hi]
  | failsafeStored p hi => simp [hi]
  | relayed k f n c out hi => simp [withoutFrame, hi]
  | substituted k f n c hi => simp [withoutFrame, hi]
  | received k f seq t m n b info p hi => simp [hi]

/-- Settles O55: an effect other than INIT's leaves a counter or adds to it. -/
theorem countersNeverDecrease : Obligations.CountersNeverDecrease := by
  intro i s u hinit hu
  cases exec_effect hu with
  | answered => simp
  | initialized t hi => simp [hinit] at hi
  | sent n c f k r hi hc => simp [hc]
  | ticked m n b q r hi hn => simp [hn]
  | failsafeStored => simp
  | relayed k f n c out hi hc => simpa [withoutFrame] using rejectionCounts_le hc
  | substituted k f n c hi hc => simpa [withoutFrame] using rejectionCounts_le hc
  | received k f seq t m n b info p hi hn => simp only [le_refl, hn, le_satAdd32, and_self]

end Sys2Proof.Machine
end

section
/-!
PROOFS. The family 20_memory.md: the calls of the transceiver (R71), the commands that read and write nothing (R63, R67), and the
invariant `State.Inv` under every operation, every command and every step.
-/

namespace Sys2Proof.Machine

/-! ## The frame a SEND stores is valid (R61, R149) -/

/-- A frame the encoder built passes the decoder's first three tests: its length byte holds the payload's length, its
last byte the checksum of what that length covers. -/
theorem validateReason_encodeFrame {c : Config} {ty : PacketType} {p f : Bytes} {q : Byte} (hc : c.Legal)
    (h : encodeFrame c ty p q = some f) : validateReason c f = none := by
  obtain ⟨h6, h255, -⟩ := hc
  have hlen : f.length = c.frameSize := encodeFrame_length h6 h
  rcases encodeFrame_cases c ty p q with ⟨hp, he⟩ | ⟨-, he⟩
  · have hf : f = frameBody c ty p q ++ [crc8 ((frameBody c ty p q).take (5 + p.length))] := by
      simpa [he] using h.symm
    have hpl : framePayloadLen f = p.length := by
      have hbyte : p.length < 256 := by simp only [maxPayload] at hp; omega
      simp [hf, framePayloadLen, byteAt, frameBody, Nat.mod_eq_of_lt hbyte]
    have hcov : frameCovered f = (frameBody c ty p q).take (5 + p.length) := by
      rw [frameCovered, sliceAt_zero, hpl, hf, List.take_append_of_le_length (by simp)]
    have hsum : frameChecksum c f = crc8 ((frameBody c ty p q).take (5 + p.length)) := by
      rw [frameChecksum, ← hlen, hf]
      simp [byteAt]
    refine validateReason_eq_none.2 ⟨?_, hpl ▸ hp, hcov ▸ hsum.symm⟩
    simp [hf, frameVersion, byteAt, frameBody]
  · rw [he] at h; cases h

theorem validate_encodeFrame {c : Config} {ty : PacketType} {p f : Bytes} {q : Byte} (hc : c.Legal)
    (h : encodeFrame c ty p q = some f) : validate c f = true := by
  simp [validate, validateReason_encodeFrame hc h]

/-! ## The invariant under the operations on the state -/

/-- The invariant says nothing of the model's own fields (log 2, 3, 5, 6). -/
theorem inv_onlyCore {s : State} : s.onlyCore.Inv ↔ s.Inv :=
  ⟨fun h => { h with }, fun h => { h with }⟩

theorem inv_of_onlyCore_eq {s u : State} (hs : s.Inv) (h : u.onlyCore = s.onlyCore) : u.Inv :=
  inv_onlyCore.1 (h ▸ inv_onlyCore.2 hs)

theorem respond_inv {s : State} (h : s.Inv) (st : Status) (info : Info) (v : U32) (q : Bytes) :
    (respond st info v q s).Inv := inv_of_onlyCore_eq h rfl

/-- After INIT the clause on the state before INIT asks nothing (R291). -/
theorem fresh_of_initialized {s : State} (hi : s.initialized = true) :
    s.initialized = false → s.onlyCore = State.resetWith s.cfg := by simp [hi]

theorem resetWith_inv {c : Config} (hc : c.Legal) : (State.resetWith c).Inv where
  legal := hc
  memory := resetWith_wf hc
  sentFrame := .inl rfl
  quality := Nat.zero_le _
  activeBelow := nofun
  received := ⟨nofun, fun h => absurd rfl h⟩
  tick := nofun
  never _ := rfl
  failsafeRole := nofun
  sent _ := rfl
  missed := le_rfl
  fresh _ := rfl

theorem hardwareReset_inv {s : State} (hc : s.cfg.Legal) : (hardwareReset s).Inv :=
  inv_of_onlyCore_eq (resetWith_inv hc) rfl

/-- INIT's column is the reset column but for `initialized`, the clock's baseline and the link, whose count is 0 (R190). -/
theorem initSession_inv (t : U32) {s : State} (hc : s.cfg.Legal) : (initSession t s).Inv :=
  have ⟨_, _, _, _, _, _, hthreshold, _⟩ := hc
  { resetWith_inv hc with activeBelow := fun _ => hthreshold, fresh := nofun }

section
variable {s : State} (h : s.Inv) (hi : s.initialized = true)
include h hi

theorem storeTx_inv {f : Bytes} (hlen : f.length = s.cfg.frameSize) (hf : validate s.cfg f = true) :
    (storeTx f s).Inv :=
  { h with memory := storeTx_wf h.memory hlen, sentFrame := .inr hf, fresh := fresh_of_initialized hi }

theorem storeRx_inv {f : Bytes} (hlen : f.length = s.cfg.frameSize) : (storeRx f s).Inv :=
  { h with memory := storeRx_wf h.memory hlen, fresh := fresh_of_initialized hi }

theorem loseRx_inv : (loseRx s).Inv :=
  { h with memory := loseRx_wf h.memory, fresh := fresh_of_initialized hi }

theorem storeFs_inv {p : Bytes} (hlen : p.length = s.cfg.lenCommand) : (storeFs p s).Inv :=
  { h with memory := storeFs_wf h.memory hlen, fresh := fresh_of_initialized hi }

theorem storeQuality_inv : (storeQuality s).Inv :=
  { h with quality := quality_le .., fresh := fresh_of_initialized hi }

/-- Both move by one, and the sequence number wraps at a divisor of `2^32` (R197). -/
theorem countSent_inv : (countSent s).Inv :=
  { h with
    sent := by
      have hsent := h.sent
      have hone : (1 : Byte).toNat = 1 := rfl
      simp only [countSent_statSent, countSent_txSequence, satAdd32_toNat, BitVec.toNat_add, hone]
      omega
    fresh := fresh_of_initialized hi }

theorem countRejection_inv (r : Rejection) : (countRejection r s).Inv := by
  cases r <;> exact { h with fresh := fresh_of_initialized hi }

/-- The mux runs in the aircraft role only (R230). -/
theorem substitute_inv (hrole : s.cfg.role = .aircraft) : (substitute s).Inv :=
  { h with failsafeRole := fun _ => hrole, fresh := fresh_of_initialized hi }

theorem finishWithout_inv (ty : PacketType) (out : Status) : (finishWithout ty out s).Inv := by
  rcases finishWithout_cases ty out s with ⟨hm, he⟩ | ⟨-, he⟩ <;> rw [he]
  · exact substitute_inv h hi ((muxApplies_iff ..).1 hm).1
  · exact respond_inv h ..

end

/-! ## The invariant under the tracker

Between a count and the `EVAL_LINK` that follows it an Active link may stand above the threshold. What the counts keep
is the invariant of the state with its link taken for Lost, and from that `EVAL_LINK` restores the whole. -/

/-- `s` with its link taken for Lost. -/
def unlinked (s : State) : State := { s with linkActive := false }

section
variable {s : State}

/-- The transition rule lets a link be Active only below the threshold (R166, R167). -/
theorem evalLink_inv (t : U32) (h : (unlinked s).Inv) (hi : s.initialized = true) : (evalLink t s).2.Inv :=
  have hcount : (evalLink t s).2.consecutiveMissed.toNat ≤ s.consecutiveMissed.toNat := by
    simp only [evalLink]
    split <;> simp
  { h with
    activeBelow := fun hfresh => hcount.trans_lt (linkFresh_eq_true.1 hfresh).2
    missed := hcount.trans h.missed
    fresh := fresh_of_initialized hi }

/-- Both missed counts receive the same increment, and the wider one saturates later (R34). -/
theorem unlinked_addMissed_inv (m : Nat) (h : s.Inv) (hi : s.initialized = true) : (unlinked (addMissed m s)).Inv :=
  { h with
    activeBelow := nofun
    missed := by
      have hmissed := h.missed
      simp only [unlinked, addMissed_consecutiveMissed, addMissed_statMissed, satAdd16_toNat, satAdd32_toNat]
      omega
    fresh := fresh_of_initialized hi }

theorem unlinked_clearMissed_inv (h : s.Inv) (hi : s.initialized = true) : (unlinked (clearMissed s)).Inv :=
  { h with activeBelow := nofun, missed := Nat.zero_le _, fresh := fresh_of_initialized hi }

theorem countTick_initialized (s : State) : (countTick s).initialized = s.initialized := by
  rcases countTick_cases s with ⟨-, he⟩ | ⟨-, he⟩ <;> simp [he]

theorem unlinked_countTick_inv (h : s.Inv) (hi : s.initialized = true) : (unlinked (countTick s)).Inv := by
  rcases countTick_cases s with ⟨-, he⟩ | ⟨-, he⟩ <;> rw [he]
  · exact { h with activeBelow := nofun, tick := nofun, fresh := fresh_of_initialized hi }
  · exact unlinked_addMissed_inv 1 h hi

theorem updateWork_inv (t : U32) (h : s.Inv) (hi : s.initialized = true) : (updateWork t s).Inv :=
  have hi' : (countTick s).initialized = true := (countTick_initialized s).trans hi
  respond_inv (storeQuality_inv (evalLink_inv t (unlinked_countTick_inv h hi) hi') hi') ..

theorem countGap_initialized (seq : Byte) (s : State) : (countGap seq s).initialized = s.initialized := by
  rcases countGap_cases seq s with ⟨-, -, -, he⟩ | ⟨-, he⟩ <;> simp [he]

theorem unlinked_countGap_inv (seq : Byte) (h : s.Inv) (hi : s.initialized = true) :
    (unlinked (countGap seq s)).Inv := by
  rcases countGap_cases seq s with ⟨-, -, -, he⟩ | ⟨-, he⟩ <;> rw [he]
  · exact unlinked_addMissed_inv _ h hi
  · exact unlinked_clearMissed_inv h hi

/-- `rx_valid` and the count of received frames are written by the same RECV, and the count does not wrap to 0 (R206). -/
theorem unlinked_countReceived_inv (seq : Byte) (t : U32) (h : (unlinked s).Inv) (hi : s.initialized = true) :
    (unlinked (countReceived (markReceived seq t s))).Inv :=
  have hcount : satAdd32 s.statReceived 1 ≠ 0 := fun he => by simpa using congrArg BitVec.toNat he
  { h with
    received := ⟨fun _ => hcount, fun _ => rfl⟩
    tick := fun _ => rfl
    never := nofun
    failsafeRole := nofun
    fresh := fresh_of_initialized hi }

/-- `EVAL_LINK` neither reads nor writes what step 6 of RECV writes beside the tracker's registers (R206). -/
theorem countReceived_evalLink (t : U32) (s : State) :
    countReceived (evalLink t s).2 = (evalLink t (countReceived s)).2 := rfl

theorem acceptFrame_inv (p : Bytes) (t : U32) (h : s.Inv) (hi : s.initialized = true) : (acceptFrame p t s).Inv := by
  have hi' := (countGap_initialized (frameSequence s.rxbuf) s).trans hi
  refine respond_inv ?_ ..
  rw [observe, countReceived_evalLink]
  exact evalLink_inv t (unlinked_countReceived_inv _ t (unlinked_countGap_inv _ h hi) hi') hi'

end

/-! ## The invariant under every command and every step -/

theorem sendCommand_inv (a : Byte) (d : Bytes) {s : State} (h : s.Inv) : (sendCommand a d s).Inv := by
  have hstore : ∀ {ty f}, s.initialized = true → encodeFrame s.cfg ty d s.txSequence = some f →
      (call (.transmit f) (storeTx f s)).Inv := fun hi he =>
    inv_of_onlyCore_eq (storeTx_inv h hi (encodeFrame_length h.legal.1 he) (validate_encodeFrame h.legal he)) rfl
  rcases sendCommand_cases a d s with
    ⟨-, e⟩ | ⟨-, -, e⟩ | ⟨_, -, -, -, e⟩ | ⟨_, _, hi, -, he, -, e⟩ | ⟨_, _, hi, -, he, -, e⟩ <;> rw [e]
  · exact respond_inv h ..
  · exact respond_inv h ..
  · exact respond_inv h ..
  · exact respond_inv (hstore hi he) ..
  · exact respond_inv (countSent_inv (hstore hi he) hi) ..

theorem recvCommand_inv (a : Byte) (t : U32) (d : Bytes) {s : State} (h : s.Inv) : (recvCommand a t d s).Inv := by
  have hpolled : (call .available s).Inv := inv_of_onlyCore_eq h rfl
  have hcalled : (call .receive (call .available s)).Inv := inv_of_onlyCore_eq h rfl
  rcases recvCommand_cases a t d s with
    ⟨-, e⟩ | ⟨-, -, e⟩ | ⟨-, -, -, e⟩ | ⟨ty, -, hi, -, -, e⟩ | ⟨ty, -, hi, -, -, -, e⟩ |
    ⟨ty, f, r, -, hi, -, -, hlen, -, e⟩ | ⟨_, f, p, -, hi, -, -, hlen, -, e⟩ <;> rw [e]
  · exact respond_inv h ..
  · exact respond_inv h ..
  · exact respond_inv h ..
  · exact finishWithout_inv hpolled hi ..
  · exact finishWithout_inv (loseRx_inv hcalled hi) hi ..
  · exact finishWithout_inv (countRejection_inv (storeRx_inv hcalled hi hlen) hi r) (by simpa using hi) ..
  · exact acceptFrame_inv p t (storeRx_inv hcalled hi hlen) hi

theorem exec_inv {i : Instr} {s u : State} (h : s.Inv) (hu : exec i s = .next u) : u.Inv := by
  cases hs : isSend i
  case true =>
    obtain ⟨a, b, t, d, hf⟩ := exists_sendForm hs
    cases (exec_of_sendForm hf s).symm.trans hu
    exact sendCommand_inv a d h
  case false =>
    cases hr : isRecv i
    case true =>
      obtain ⟨a, b, t, d, hf⟩ := exists_recvForm hr
      cases (exec_of_recvForm hf s).symm.trans hu
      exact recvCommand_inv a t d h
    case false =>
      rcases exec_otherCommand_cases i s hs hr with
        ⟨st, e, -⟩ | ⟨-, t, e⟩ | ⟨-, hi, t, e⟩ | ⟨-, hi, d, hlen, e⟩ | ⟨-, -, -, v, q, e⟩ <;>
        cases e.symm.trans hu
      · exact respond_inv h ..
      · exact respond_inv (initSession_inv t h.legal) ..
      · exact updateWork_inv t h hi
      · exact respond_inv (storeFs_inv h hi hlen) ..
      · exact respond_inv h ..

/-- Settles O58, by the kinds of step. -/
theorem everyStepKeepsTheInvariant : Obligations.EveryStepKeepsTheInvariant := by
  intro s u h hu
  have haccept : ∀ x rest, (accept x rest s).Inv := fun _ _ => inv_of_onlyCore_eq h rfl
  rcases step_cases s with ⟨-, e⟩ | ⟨rest, -, e⟩ | ⟨c, x, rest, i, -, -, e⟩ | ⟨c, x, rest, _, -, -, e⟩ <;>
    rw [e] at hu
  · cases hu; exact h
  · cases hu; exact hardwareReset_inv h.legal
  · exact exec_inv (haccept x rest) hu
  · cases hu; exact respond_inv (haccept x rest) ..

/-! ## The calls of the transceiver (R71, R284 to R286) -/

theorem countGap_calls (seq : Byte) (s : State) : (countGap seq s).calls = s.calls := by
  rcases countGap_cases seq s with ⟨-, -, -, h⟩ | ⟨-, h⟩ <;> simp [h]

@[simp] theorem acceptFrame_calls (p : Bytes) (t : U32) (s : State) : (acceptFrame p t s).calls = s.calls :=
  countGap_calls ..

@[simp] theorem finishWithout_calls (ty : PacketType) (out : Status) (s : State) :
    (finishWithout ty out s).calls = s.calls := by
  rcases finishWithout_cases ty out s with ⟨-, h⟩ | ⟨-, h⟩ <;> simp [h]

/-- SEND makes no call, or one transmit of `TXBUF` as it leaves it (R195, R196). -/
theorem sendCommand_calls (a : Byte) (d : Bytes) (s : State) :
    (sendCommand a d s).calls = s.calls ∨
    (sendCommand a d s).calls = s.calls ++ [.transmit (sendCommand a d s).txbuf] := by
  rcases sendCommand_cases a d s with
    ⟨-, h⟩ | ⟨-, -, h⟩ | ⟨_, -, -, -, h⟩ | ⟨_, _, -, -, -, -, h⟩ | ⟨_, _, -, -, -, -, h⟩ <;> rw [h]
  · exact .inl rfl
  · exact .inl rfl
  · exact .inl rfl
  · exact .inr rfl
  · exact .inr rfl

/-- RECV makes no call, one poll that answered false, or a poll that answered true and one receive (R200). -/
theorem recvCommand_calls (a : Byte) (t : U32) (d : Bytes) (s : State) :
    (recvCommand a t d s).calls = s.calls ∨
    (s.xcvr.available = false ∧ (recvCommand a t d s).calls = s.calls ++ [.available]) ∨
    (s.xcvr.available = true ∧ (recvCommand a t d s).calls = s.calls ++ [.available, .receive]) := by
  rcases recvCommand_cases a t d s with
    ⟨-, h⟩ | ⟨-, -, h⟩ | ⟨-, -, -, h⟩ | ⟨_, -, -, -, ha, h⟩ | ⟨_, -, -, -, ha, -, h⟩ |
    ⟨_, _, _, -, -, -, ha, -, -, h⟩ | ⟨_, _, _, -, -, -, ha, -, -, h⟩ <;> rw [h]
  · exact .inl rfl
  · exact .inl rfl
  · exact .inl rfl
  · exact .inr (.inl ⟨ha, by simp⟩)
  · exact .inr (.inr ⟨ha, by simp⟩)
  · exact .inr (.inr ⟨ha, by simp⟩)
  · exact .inr (.inr ⟨ha, by simp⟩)

theorem updateWork_calls (t : U32) (s : State) : (updateWork t s).calls = s.calls := by
  obtain ⟨_, _, _, _, _, -, h⟩ := updateWork_eq t s
  rw [h]

/-- No other command makes any call. -/
theorem exec_otherCommand_calls {i : Instr} {s u : State} (hs : isSend i = false) (hr : isRecv i = false)
    (hu : exec i s = .next u) : u.calls = s.calls := by
  rcases exec_otherCommand_cases i s hs hr with
    ⟨_, h, -⟩ | ⟨-, _, h⟩ | ⟨-, -, t, h⟩ | ⟨-, -, _, -, h⟩ | ⟨-, -, -, _, _, h⟩ <;> cases h.symm.trans hu
  · rfl
  · rfl
  · exact updateWork_calls t s
  · rfl
  · rfl

/-- Settles O52, by the kinds of command. -/
theorem transceiverCallsAreOrdered : Obligations.TransceiverCallsAreOrdered := by
  intro i s u hu
  cases hs : isSend i
  case true =>
    obtain ⟨a, b, t, d, hf⟩ := exists_sendForm hs
    cases (exec_of_sendForm hf s).symm.trans hu
    rcases sendCommand_calls a d s with h | h
    · exact ⟨[], by simp [h], .inl rfl⟩
    · exact ⟨_, h, .inr (.inl ⟨rfl, rfl⟩)⟩
  case false =>
    cases hr : isRecv i
    case true =>
      obtain ⟨a, b, t, d, hf⟩ := exists_recvForm hr
      cases (exec_of_recvForm hf s).symm.trans hu
      rcases recvCommand_calls a t d s with h | ⟨ha, h⟩ | ⟨ha, h⟩
      · exact ⟨[], by simp [h], .inl rfl⟩
      · exact ⟨_, h, .inr (.inr (.inl ⟨rfl, rfl, ha⟩))⟩
      · exact ⟨_, h, .inr (.inr (.inr ⟨rfl, rfl, ha⟩))⟩
    case false => exact ⟨[], by simp [exec_otherCommand_calls hs hr hu], .inl rfl⟩

/-! ## The commands that read and write nothing (R63, R67) -/

/-- `work` only answers `s`: it writes the response alone, and the answer does not depend on the response that stood
there. -/
def Reads (work : State → State) (s : State) : Prop :=
  ∃ r, ∀ o, work { s with response := o } = { s with response := some r }

section
variable {s : State}

theorem reads_respond (st : Status) (info : Info) (v : U32) (q : Bytes) : Reads (respond st info v q) s :=
  ⟨_, fun _ => rfl⟩

theorem reads_checkLength (legal : Bool) {work : State → State} (h : Reads work s) :
    Reads (checkLength legal work) s := by
  cases legal
  · exact reads_respond ..
  · exact h

theorem reads_checkInitialized {work : State → State} (h : Reads work s) : Reads (checkInitialized work) s := by
  by_cases hi : s.initialized = true
  · obtain ⟨r, hr⟩ := h
    exact ⟨r, fun o => (if_pos hi).trans (hr o)⟩
  · exact ⟨_, fun _ => if_neg hi⟩

theorem reads_checkType (a : Byte) {work : PacketType → State → State} (h : ∀ ty, Reads (work ty) s) :
    Reads (checkType a work) s := by
  unfold checkType
  cases typeOfByte a with
  | none => exact reads_respond ..
  | some ty => exact h ty

theorem reads_encodeWork (sequence : Byte) (d : Bytes) (ty : PacketType) : Reads (encodeWork sequence d ty) s := by
  unfold Reads encodeWork
  dsimp only
  cases encodeFrame s.cfg ty d sequence with
  | none => exact reads_respond ..
  | some f => exact reads_respond ..

theorem reads_decodeWork (len : Byte) (f : Bytes) (ty : PacketType) : Reads (decodeWork len f ty) s := by
  unfold Reads decodeWork
  dsimp only
  cases decodeFrame s.cfg f ty len.toNat with
  | ok p => exact reads_respond ..
  | error r => exact reads_respond ..

/-- No register holds the response (R44). -/
theorem readReg_response (o : Option Response) (a : Byte) : readReg { s with response := o } a = readReg s a := rfl

theorem reads_readWork (a : Byte) : Reads (readWork a) s := by
  unfold Reads readWork
  simp only [readReg_response]
  cases readReg s a with
  | none => exact reads_respond ..
  | some v => exact reads_respond ..

end

/-- A command that only answers changes nothing but the response, and issued again gives the same. -/
theorem idempotent_of_reads {i : Instr} {work : State → State} {s u : State} (hw : Reads work s)
    (he : ∀ o, exec i { s with response := o } = .next (work { s with response := o })) (hu : exec i s = .next u) :
    u = { s with response := u.response } ∧ exec i u = .next u := by
  obtain ⟨r, hr⟩ := hw
  have hnext : ∀ o, exec i { s with response := o } = .next { s with response := some r } := fun o =>
    (he o).trans (congrArg _ (hr o))
  cases (hnext s.response).symm.trans hu
  exact ⟨rfl, hnext (some r)⟩

/-- Settles O53: behind its checks each of the six commands only answers. -/
theorem readingCommandsAreIdempotent : Obligations.ReadingCommandsAreIdempotent := by
  intro a b t d i s u hform hu
  rcases hform with rfl | rfl | rfl | rfl | rfl | rfl
  · exact idempotent_of_reads (reads_respond ..) (fun _ => exec_crc8 ..) hu
  · exact idempotent_of_reads (reads_checkType a (reads_encodeWork b d)) (fun _ => exec_encode ..) hu
  · exact idempotent_of_reads
      (reads_checkLength (d.length = s.cfg.frameSize)
        (reads_respond .ok Info.empty (if validate s.cfg d then 1 else 0) [])) (fun _ => exec_validate ..) hu
  · exact idempotent_of_reads
      (reads_checkLength (d.length = s.cfg.frameSize) (reads_checkType a (reads_decodeWork b d)))
      (fun _ => exec_decode ..) hu
  · exact idempotent_of_reads (reads_checkLength (d.length = 0) (reads_readWork a)) (fun _ => exec_rdreg ..) hu
  · exact idempotent_of_reads
      (reads_checkLength (d.length = 0) (reads_checkInitialized (reads_respond .ok Info.empty 0 s.fs)))
      (fun _ => exec_getfs ..) hu

end Sys2Proof.Machine
end

section
/-!
PROOFS. The family 30_encoding.md: the fields of the header word (R91, R110), decoding against encoding (R99, R109), what the
decoder of frames reads (R86, R104, R105), the checks on `OP` and `N` (R100, R101) and the event bits (R97).
-/

namespace Sys2Proof

/-! ## The words as numbers (R91, R110) -/

theorem toNat_append_eq_add {m n : Nat} (x : BitVec m) (y : BitVec n) :
    (x ++ y).toNat = x.toNat * 2 ^ n + y.toNat := by
  rw [BitVec.toNat_append, ← Nat.shiftLeft_add_eq_or_of_lt y.isLt, Nat.shiftLeft_eq]

theorem toNat_headerWord (op a b n : Byte) (t : U32) :
    (headerWord op a b n t).toNat =
      op.toNat + a.toNat * 2 ^ 8 + b.toNat * 2 ^ 16 + n.toNat * 2 ^ 24 + t.toNat * 2 ^ 32 := by
  simp only [headerWord, toNat_append_eq_add]
  omega

theorem toNat_opField (c : Word) : (opField c).toNat = c.toNat % 2 ^ 8 := by simp [opField]

theorem toNat_aField (c : Word) : (aField c).toNat = c.toNat / 2 ^ 8 % 2 ^ 8 := by
  simp [aField, Nat.shiftRight_eq_div_pow]

theorem toNat_bField (c : Word) : (bField c).toNat = c.toNat / 2 ^ 16 % 2 ^ 8 := by
  simp [bField, Nat.shiftRight_eq_div_pow]

theorem toNat_nField (c : Word) : (nField c).toNat = c.toNat / 2 ^ 24 % 2 ^ 8 := by
  simp [nField, Nat.shiftRight_eq_div_pow]

/-- `T` reaches the word's last bit, so nothing is cut off above it. -/
theorem toNat_tField (c : Word) : (tField c).toNat = c.toNat / 2 ^ 32 := by
  simp only [tField, BitVec.extractLsb'_toNat, Nat.shiftRight_eq_div_pow]
  have := c.isLt
  omega

/-- A number of data bytes that the field `N` can hold stands there as it is (R91). -/
theorem toNat_ofNat_length {d : Bytes} (h : d.length ≤ 255) : (BitVec.ofNat 8 d.length).toNat = d.length := by
  rw [BitVec.toNat_ofNat]
  omega

/-- Settles O4. -/
theorem headerFieldsLieWhereTheTableSays : Obligations.HeaderFieldsLieWhereTheTableSays := fun c =>
  ⟨toNat_opField c, toNat_aField c, toNat_bField c, toNat_nField c, toNat_tField c⟩

theorem toNat_responseWord {r : Machine.Response} (h : r.q.length ≤ 255) :
    (Machine.responseWord r).toNat =
      (Machine.statusCode r.st).toNat + r.q.length * 2 ^ 8 + (Machine.infoByte r.info).toNat * 2 ^ 16 +
        r.v.toNat * 2 ^ 32 := by
  have hzero : (0 : Byte).toNat = 0 := rfl
  simp only [Machine.responseWord, Machine.responseM, toNat_append_eq_add, toNat_ofNat_length h, hzero]
  omega

/-- Settles O3: the sums hold for every word, and the three examples have one length each. -/
theorem wordsAreSumsOfTheirFields : Obligations.WordsAreSumsOfTheirFields := by
  refine ⟨fun op a b t d hd => ?_, fun r hr => toNat_responseWord hr, rfl, fun d hd => ?_, fun d hd => ?_⟩
  · rw [commandWords, toNat_headerWord, toNat_ofNat_length hd]
  · simp only [encode, commandWords, hd]; rfl
  · simp only [Machine.responseWord, Machine.responseM, hd]; rfl

/-! ## A header word and its fields (R91) -/

@[simp] theorem aField_headerWord (op a b n : Byte) (t : U32) : aField (headerWord op a b n t) = a := by
  apply BitVec.eq_of_toNat_eq
  rw [toNat_aField, toNat_headerWord]
  omega

@[simp] theorem bField_headerWord (op a b n : Byte) (t : U32) : bField (headerWord op a b n t) = b := by
  apply BitVec.eq_of_toNat_eq
  rw [toNat_bField, toNat_headerWord]
  omega

@[simp] theorem nField_headerWord (op a b n : Byte) (t : U32) : nField (headerWord op a b n t) = n := by
  apply BitVec.eq_of_toNat_eq
  rw [toNat_nField, toNat_headerWord]
  omega

@[simp] theorem tField_headerWord (op a b n : Byte) (t : U32) : tField (headerWord op a b n t) = t := by
  apply BitVec.eq_of_toNat_eq
  rw [toNat_tField, toNat_headerWord]
  omega

/-- The five fields are the whole word. -/
theorem headerWord_fields (c : Word) : headerWord (opField c) (aField c) (bField c) (nField c) (tField c) = c := by
  apply BitVec.eq_of_toNat_eq
  rw [toNat_headerWord, toNat_opField, toNat_aField, toNat_bField, toNat_nField, toNat_tField]
  omega

/-! ## Decoding and encoding (R90, R99, R109) -/

/-- The words built from operands are read back field by field, and the data channel as it stands. -/
theorem decode_commandWords (op a b : Byte) (t : U32) {d : Bytes} (h : d.length ≤ 255) :
    decode (commandWords op a b t d) = decodeFields op a b t d := by
  simp [decode, commandWords, Laws.opField_headerWord, toNat_ofNat_length h]

theorem decodeSend_of_ne {a : Byte} (b : Byte) (t : U32) (d : Bytes) (h1 : a ≠ 0x01) (h2 : a ≠ 0x02) :
    decodeSend a b t d = .send a b t d := by
  rw [decodeSend, if_neg h1, if_neg h2]

theorem decodeRecv_of_ne {a : Byte} (b : Byte) (t : U32) (d : Bytes) (h1 : a ≠ 0x01) (h2 : a ≠ 0x02) :
    decodeRecv a b t d = .recv a b t d := by
  rw [decodeRecv, if_neg h1, if_neg h2]

theorem wellFormed_iff (i : Instr) : i.wellFormed = true ↔ i.data.length ≤ 255 ∧ i.named = true := by
  simp [Instr.wellFormed, Instr.dataFits]

/-- Settles O1: the words are read back as their fields, and the opcode map gives the command its name; that SEND and
RECV are named is needed for types 0x01 and 0x02 (R109). -/
theorem decodeInvertsEncode : Obligations.DecodeInvertsEncode := by
  intro i hi
  obtain ⟨hdata, hnamed⟩ := (wellFormed_iff i).1 hi
  cases i with
  | send a b t d =>
    obtain ⟨h1, h2⟩ : a ≠ 0x01 ∧ a ≠ 0x02 := of_decide_eq_true hnamed
    exact (decode_commandWords _ a b t hdata).trans (congrArg Except.ok (decodeSend_of_ne b t d h1 h2))
  | recv a b t d =>
    obtain ⟨h1, h2⟩ : a ≠ 0x01 ∧ a ≠ 0x02 := of_decide_eq_true hnamed
    exact (decode_commandWords _ a b t hdata).trans (congrArg Except.ok (decodeRecv_of_ne b t d h1 h2))
  | init | update | setfs | getfs | rdreg | crc8 | encode | validate | decode | sendcmd | recvtel | recvcmd | sendtel =>
    exact decode_commandWords _ _ _ _ hdata

/-- `i` is the name of the words with opcode `op` and these operands. -/
structure Names (op a b : Byte) (t : U32) (d : Bytes) (i : Instr) : Prop where
  words : encode i = commandWords op a b t d
  data : i.data = d
  named : i.named = true

theorem names_decodeSend (a b : Byte) (t : U32) (d : Bytes) : Names 0x02 a b t d (decodeSend a b t d) := by
  by_cases h1 : a = 0x01
  · subst h1; exact ⟨rfl, rfl, rfl⟩
  · by_cases h2 : a = 0x02
    · subst h2; exact ⟨rfl, rfl, rfl⟩
    · rw [decodeSend_of_ne b t d h1 h2]
      exact ⟨rfl, rfl, decide_eq_true ⟨h1, h2⟩⟩

theorem names_decodeRecv (a b : Byte) (t : U32) (d : Bytes) : Names 0x03 a b t d (decodeRecv a b t d) := by
  by_cases h1 : a = 0x01
  · subst h1; exact ⟨rfl, rfl, rfl⟩
  · by_cases h2 : a = 0x02
    · subst h2; exact ⟨rfl, rfl, rfl⟩
    · rw [decodeRecv_of_ne b t d h1 h2]
      exact ⟨rfl, rfl, decide_eq_true ⟨h1, h2⟩⟩

/-- The opcode map inverted: a command it answers is the name of the fields it was read from (R99). -/
theorem names_of_decodeFields {op a b : Byte} {t : U32} {d : Bytes} {i : Instr}
    (h : decodeFields op a b t d = .ok i) : Names op a b t d i := by
  have hop : ∀ {k : Byte}, op.toNat = k.toNat → op = k := BitVec.eq_of_toNat_eq
  unfold decodeFields at h
  split at h <;> cases h
  case h_1 e => obtain rfl := hop (k := 0x01) e; exact ⟨rfl, rfl, rfl⟩
  case h_2 e => obtain rfl := hop (k := 0x02) e; exact names_decodeSend a b t d
  case h_3 e => obtain rfl := hop (k := 0x03) e; exact names_decodeRecv a b t d
  case h_4 e => obtain rfl := hop (k := 0x04) e; exact ⟨rfl, rfl, rfl⟩
  case h_5 e => obtain rfl := hop (k := 0x05) e; exact ⟨rfl, rfl, rfl⟩
  case h_6 e => obtain rfl := hop (k := 0x06) e; exact ⟨rfl, rfl, rfl⟩
  case h_7 e => obtain rfl := hop (k := 0x07) e; exact ⟨rfl, rfl, rfl⟩
  case h_8 e => obtain rfl := hop (k := 0x10) e; exact ⟨rfl, rfl, rfl⟩
  case h_9 e => obtain rfl := hop (k := 0x11) e; exact ⟨rfl, rfl, rfl⟩
  case h_10 e => obtain rfl := hop (k := 0x12) e; exact ⟨rfl, rfl, rfl⟩
  case h_11 e => obtain rfl := hop (k := 0x13) e; exact ⟨rfl, rfl, rfl⟩

/-- Settles O2: the command is the name of the header's fields and of the channel's bytes, and those are the words. -/
theorem encodeInvertsDecode : Obligations.EncodeInvertsDecode := by
  intro c i hlen hc
  rw [decode, channel_of_length hlen] at hc
  obtain ⟨hwords, hdata, hnamed⟩ := names_of_decodeFields hc
  have hN : BitVec.ofNat 8 c.data.length = nField c.header := by rw [hlen, BitVec.ofNat_toNat, BitVec.setWidth_eq]
  have hfits : i.data.length ≤ 255 := by
    rw [hdata, hlen]
    exact Nat.le_of_lt_succ (nField c.header).isLt
  refine ⟨(wellFormed_iff i).2 ⟨hfits, hnamed⟩, ?_⟩
  rw [hwords, commandWords, hN, headerWord_fields]

/-- Settles O5: each header is the word of its command's fields, read back by the opcode map. -/
theorem sampleWordsDecode : Obligations.SampleWordsDecode :=
  ⟨rfl, rfl, rfl, rfl, rfl, rfl, rfl, rfl, rfl, rfl, rfl, rfl⟩

/-! ## The opcode map's domain (R99, R100) -/

theorem decodeFields_of_illegal {op : Byte} (a b : Byte) (t : U32) (d : Bytes)
    (h : op.toNat = 0 ∨ (8 ≤ op.toNat ∧ op.toNat ≤ 15) ∨ 20 ≤ op.toNat) :
    decodeFields op a b t d = .error (.illegalOpcode op) := by
  unfold decodeFields
  split
  case h_12 => rfl
  all_goals omega

theorem exists_decodeFields_of_legal {op : Byte} (a b : Byte) (t : U32) (d : Bytes)
    (h : (1 ≤ op.toNat ∧ op.toNat ≤ 7) ∨ (16 ≤ op.toNat ∧ op.toNat ≤ 19)) :
    ∃ i, decodeFields op a b t d = .ok i := by
  unfold decodeFields
  split
  case h_12 => simp only [imp_false] at *; omega
  all_goals exact ⟨_, rfl⟩

end Sys2Proof

namespace Sys2Proof.Machine

/-- Settles O7: outside the map the decoder refuses, and the step answers for it; inside, it answers a command. -/
theorem illegalOpcodesAnswerInvalidParameter : Obligations.IllegalOpcodesAnswerInvalidParameter := by
  have hfield : ∀ c : Word, c.toNat % 256 = (opField c).toNat := fun c => (toNat_opField c).symm
  refine ⟨fun s c x rest hp hop => ?_, fun c hop => ?_⟩ <;> rw [hfield] at hop
  · exact step_illegal hp (decodeFields_of_illegal _ _ _ _ hop)
  · exact exists_decodeFields_of_legal _ _ _ _ hop

/-! ## The number of data bytes (R94, R101) -/

/-- A check on `N` that fails is the whole answer, whatever the work behind it. -/
theorem next_checkLength_of_ne {n m : Nat} (h : n ≠ m) (work : State → State) (s : State) :
    (.next (checkLength (n = m) work s) : Host.Outcome State Fault Refusal) =
      .next { s with response := some (errorResponse .invalidParameter) } := by
  rw [checkLength, decide_eq_false h]
  rfl

/-- Settles O11: the check on `N` comes first in each of these commands. -/
theorem illegalLengthAnswersInvalidParameter : Obligations.IllegalLengthAnswersInvalidParameter := by
  refine ⟨fun a b t d s i hd hi => ?_, fun a b t d s hd => next_checkLength_of_ne hd _ s,
    fun a b t d s i hd hi => ?_⟩
  · have hd : d.length ≠ 0 := mt List.length_eq_zero_iff.1 hd
    rcases hi with rfl | rfl | rfl | rfl | hf
    · exact next_checkLength_of_ne hd _ s
    · exact next_checkLength_of_ne hd _ s
    · exact next_checkLength_of_ne hd _ s
    · exact next_checkLength_of_ne hd _ s
    · exact (exec_of_recvForm hf s).trans (next_checkLength_of_ne hd _ s)
  · rcases hi with rfl | rfl
    · exact next_checkLength_of_ne hd _ s
    · exact next_checkLength_of_ne hd _ s

/-! ## Operands without effect and pseudo-commands (R102, R109) -/

/-- Settles O13: the unused operands are in no command's meaning. -/
theorem unusedOperandsHaveNoEffect : Obligations.UnusedOperandsHaveNoEffect := by
  intro a a' b b' t t' d s
  simp only [exec_init, exec_send, exec_sendcmd, exec_sendtel, exec_recv, exec_recvcmd, exec_recvtel, exec_update,
    exec_setfs, exec_getfs, exec_rdreg, exec_crc8, exec_encode, exec_validate, exec_decode, and_self]

/-- Settles O14: both sides are the same form of SEND, or of RECV. -/
theorem pseudoCommandsAreTheirExpansions : Obligations.PseudoCommandsAreTheirExpansions := by
  intro b t d s
  simp only [exec_sendcmd, exec_sendtel, exec_recvcmd, exec_recvtel, exec_send, exec_recv, and_self]

/-! ## What the decoder of frames reads (R86, R104, R105) -/

/-- Beyond its verdict the decoder reads the type, the declared length and the declared payload (R146). -/
theorem decodeFrame_congr {c : Config} {f g : Bytes} (hv : validateReason c g = validateReason c f)
    (ht : frameType g = frameType f) (hl : framePayloadLen g = framePayloadLen f) (hp : framePayload g = framePayload f)
    (et : PacketType) (el : Nat) : decodeFrame c g et el = decodeFrame c f et el := by
  simp only [decodeFrame, hv, ht, hl, hp]

theorem validateReason_congr {c : Config} {f g : Bytes} (hver : frameVersion g = frameVersion f)
    (hl : framePayloadLen g = framePayloadLen f) (hcov : frameCovered g = frameCovered f)
    (hsum : frameChecksum c g = frameChecksum c f) : validateReason c g = validateReason c f := by
  simp only [validateReason, hver, hl, hcov, hsum]

theorem byteAt_eq_of_take_eq {f g : Bytes} {n i : Nat} (h : g.take n = f.take n) (hi : i < n) :
    byteAt g i = byteAt f i := by
  have hget := congrArg (·[i]?) h
  simp only [List.getElem?_take_of_lt hi] at hget
  simp only [byteAt, List.getD_eq_getElem?_getD, hget]

/-- Settles O24: version, type, declared length, covered bytes and declared payload all lie in the header and the
declared payload. -/
theorem payloadTailIsNeverRead : Obligations.PayloadTailIsNeverRead := by
  intro c f g et el htake hsum
  have hbyte : ∀ i < 5, byteAt g i = byteAt f i := fun i hi => byteAt_eq_of_take_eq htake (by omega)
  have hlen : framePayloadLen g = framePayloadLen f := congrArg BitVec.toNat (hbyte 4 (by decide))
  have hcov : frameCovered g = frameCovered f := by
    simp only [frameCovered, hlen, sliceAt_zero]
    exact htake
  have hpay : framePayload g = framePayload f := by
    have hdrop := congrArg (List.drop 5) htake
    simp only [List.drop_take, Nat.add_sub_cancel_left] at hdrop
    simp only [framePayload, hlen, sliceAt]
    exact hdrop
  have hv := validateReason_congr (hbyte 0 (by decide)) hlen hcov hsum
  exact ⟨hv, decodeFrame_congr hv (hbyte 1 (by decide)) hlen hpay et el⟩

/-- Slices that end inside two lists of one length agree when their bytes do. -/
theorem sliceAt_congr {f g : Bytes} {i n : Nat} (hlen : g.length = f.length)
    (h : ∀ k < n, byteAt g (i + k) = byteAt f (i + k)) : sliceAt g i n = sliceAt f i n := by
  refine List.ext_getElem (by simp [sliceAt, hlen]) fun k hg hf => ?_
  simp only [sliceAt, List.length_take, List.length_drop, lt_inf_iff] at hg hf
  have hk := h k hf.1
  simp only [byteAt] at hk
  rw [List.getD_eq_getElem _ _ (by omega), List.getD_eq_getElem _ _ (by omega)] at hk
  simpa [sliceAt] using hk

/-- Settles O25: `flags` is byte 3, which no test and no payload contains, and the checksum byte lies behind the
declared payload. -/
theorem flagsNeverCauseARejection : Obligations.FlagsNeverCauseARejection := by
  intro c f g et el hc hf hg hagree hvalid hsum
  obtain ⟨hsize, -⟩ := hc
  have hvf : validateReason c f = none := of_decide_eq_true hvalid
  obtain ⟨hver, hfits, -⟩ := validateReason_eq_none.1 hvf
  have hlen : framePayloadLen g = framePayloadLen f := congrArg BitVec.toNat (hagree 4 (by decide) (by omega))
  have hpay : framePayload g = framePayload f := by
    rw [framePayload, framePayload, hlen]
    refine sliceAt_congr (hg.trans hf.symm) fun k hk => hagree _ (by omega) ?_
    simp only [maxPayload] at hfits
    omega
  have hvg : validateReason c g = none := by
    refine validateReason_eq_none.2 ⟨(hagree 0 (by decide) (by omega)).trans hver, hlen ▸ hfits, ?_⟩
    rw [frameCovered, sliceAt_zero]
    exact hsum.symm
  exact ⟨decide_eq_true hvg,
    decodeFrame_congr (hvg.trans hvf.symm) (hagree 1 (by decide) (by omega)) hlen hpay et el⟩

/-! ## The event bits (R97) -/

theorem toNat_infoByte (n : Info) :
    (infoByte n).toNat = n.fs.toNat + 2 * n.lostEv.toNat + 4 * n.upEv.toNat + 8 * n.fsEv.toNat := by
  have hzero : (0 : BitVec 4).toNat = 0 := rfl
  simp only [infoByte, toNat_append_eq_add, BitVec.toNat_ofBool, hzero]
  omega

/-- What changed of `link_active` and `failsafe_active` from `s` to `u`, as event bits. -/
def changes (s u : State) : Info where
  fs := false
  lostEv := s.linkActive && !u.linkActive
  upEv := !s.linkActive && u.linkActive
  fsEv := !s.failsafeActive && u.failsafeActive

theorem changes_eq_empty {s u : State} (hl : u.linkActive = s.linkActive) (hf : u.failsafeActive = s.failsafeActive) :
    changes s u = Info.empty := by
  simp [changes, hl, hf, Info.empty]

/-- How a command reports: without events, with the changes it made, or with those and a substitution. -/
inductive Reports (i : Instr) (s u : State) (r : Response) : Prop
  /-- INIT, which reports nothing of the link it sets (R190). -/
  | started (hi : isInit i = true) (h : r.info = Info.empty)
  /-- A command that leaves link and failsafe as they are. -/
  | quiet (hl : u.linkActive = s.linkActive) (hf : u.failsafeActive = s.failsafeActive) (h : r.info = Info.empty)
  /-- A tick or an accepted frame (R170, R206). -/
  | tracked (hi : isRecv i = true ∨ isUpdate i = true) (h : r.info = changes s u)
  /-- The mux's substitution (R230). -/
  | substituted (hi : isRecv i = true) (hst : r.st = .ok) (hq : r.q = s.fs) (h : r.info = { changes s u with fs := true })

theorem countTick_link (s : State) :
    (countTick s).linkActive = s.linkActive ∧ (countTick s).failsafeActive = s.failsafeActive := by
  rcases countTick_cases s with ⟨-, h⟩ | ⟨-, h⟩ <;> simp [h]

theorem countGap_linkActive (seq : Byte) (s : State) : (countGap seq s).linkActive = s.linkActive := by
  rcases countGap_cases seq s with ⟨-, -, -, h⟩ | ⟨-, h⟩ <;> simp [h]

/-- UPDATE's events are those of its `EVAL_LINK`, and it leaves the failsafe flag (R170). -/
theorem updateWork_info (t : U32) (s : State) :
    ∃ r, (updateWork t s).response = some r ∧ r.info = changes s (updateWork t s) := by
  obtain ⟨hl, hf⟩ := countTick_link s
  exact ⟨_, rfl, by simp [updateWork, evalLink, evalInfo, storeQuality, changes, Info.empty, hl, hf]⟩

/-- An accepted frame's events are those of its `EVAL_LINK`, and it clears the failsafe flag (R206). -/
theorem acceptFrame_info (p : Bytes) (t : U32) (s : State) :
    ∃ r, (acceptFrame p t s).response = some r ∧ r.info = changes s (acceptFrame p t s) := by
  have hl := countGap_linkActive (frameSequence s.rxbuf) s
  exact ⟨_, rfl, by simp [acceptFrame, observe, evalLink, evalInfo, changes, Info.empty, hl]⟩

theorem reports_finishWithout {i : Instr} (hi : isRecv i = true) (ty : PacketType) (out : Status) {s v : State}
    (hl : v.linkActive = s.linkActive) (hf : v.failsafeActive = s.failsafeActive) (hfs : v.fs = s.fs) :
    ∃ r, (finishWithout ty out v).response = some r ∧ Reports i s (finishWithout ty out v) r := by
  rcases finishWithout_cases ty out v with ⟨-, h⟩ | ⟨-, h⟩ <;> rw [h]
  · exact ⟨_, rfl, .substituted hi rfl hfs (by simp [changes, Info.empty, hl, hf])⟩
  · exact ⟨_, rfl, .quiet hl hf rfl⟩

theorem reports_sendCommand (i : Instr) (a : Byte) (d : Bytes) (s : State) :
    ∃ r, (sendCommand a d s).response = some r ∧ Reports i s (sendCommand a d s) r := by
  rcases sendCommand_cases a d s with
    ⟨-, h⟩ | ⟨-, -, h⟩ | ⟨_, -, -, -, h⟩ | ⟨_, _, -, -, -, -, h⟩ | ⟨_, _, -, -, -, -, h⟩ <;> rw [h] <;>
    exact ⟨_, rfl, .quiet rfl rfl rfl⟩

theorem reports_recvCommand {i : Instr} (hi : isRecv i = true) (a : Byte) (t : U32) (d : Bytes) (s : State) :
    ∃ r, (recvCommand a t d s).response = some r ∧ Reports i s (recvCommand a t d s) r := by
  rcases recvCommand_cases a t d s with
    ⟨-, h⟩ | ⟨-, -, h⟩ | ⟨-, -, -, h⟩ | ⟨ty, -, -, -, -, h⟩ | ⟨ty, -, -, -, -, -, h⟩ |
    ⟨ty, f, r, -, -, -, -, -, -, h⟩ | ⟨_, f, p, -, -, -, -, -, -, h⟩ <;> rw [h]
  · exact ⟨_, rfl, .quiet rfl rfl rfl⟩
  · exact ⟨_, rfl, .quiet rfl rfl rfl⟩
  · exact ⟨_, rfl, .quiet rfl rfl rfl⟩
  · exact reports_finishWithout hi ty _ rfl rfl rfl
  · exact reports_finishWithout hi ty _ rfl rfl rfl
  · rw [countRejection_receivedState_eq]
    exact reports_finishWithout hi ty _ rfl rfl rfl
  · obtain ⟨r, hr, hinfo⟩ := acceptFrame_info p t (receivedState f s)
    exact ⟨r, hr, .tracked (.inl hi) hinfo⟩

/-- Every command's response reports what the command changed. -/
theorem exec_reports {i : Instr} {s u : State} (hu : exec i s = .next u) :
    ∃ r, u.response = some r ∧ Reports i s u r := by
  cases hs : isSend i
  case true =>
    obtain ⟨a, b, t, d, hf⟩ := exists_sendForm hs
    cases (exec_of_sendForm hf s).symm.trans hu
    exact reports_sendCommand i a d s
  case false =>
    cases hr : isRecv i
    case true =>
      obtain ⟨a, b, t, d, hf⟩ := exists_recvForm hr
      cases (exec_of_recvForm hf s).symm.trans hu
      exact reports_recvCommand hr a t d s
    case false =>
      rcases exec_otherCommand_cases i s hs hr with
        ⟨st, h, -⟩ | ⟨hi, t, h⟩ | ⟨hi, -, t, h⟩ | ⟨-, -, d, -, h⟩ | ⟨-, -, -, v, q, h⟩ <;>
        cases h.symm.trans hu
      · exact ⟨_, rfl, .quiet rfl rfl rfl⟩
      · exact ⟨_, rfl, .started hi rfl⟩
      · obtain ⟨r, hr, hinfo⟩ := updateWork_info t s
        exact ⟨r, hr, .tracked (.inr hi) hinfo⟩
      · exact ⟨_, rfl, .quiet rfl rfl rfl⟩
      · exact ⟨_, rfl, .quiet rfl rfl rfl⟩

theorem isInit_eq_false {i : Instr} (h : isRecv i = true ∨ isUpdate i = true) : isInit i = false := by
  cases i <;> simp [isRecv, isUpdate] at h <;> rfl

/-- A link does not come up and go down in one command. -/
theorem changes_exclusive (s u : State) : ¬((changes s u).lostEv = true ∧ (changes s u).upEv = true) := by
  simp +contextual [changes]

/-- Settles O51, by the ways a command reports. -/
theorem eventBitsSayWhatChanged : Obligations.EventBitsSayWhatChanged := by
  refine ⟨toNat_infoByte, fun i s u r hu hr => ?_⟩
  obtain ⟨r', hr', hrep⟩ := exec_reports hu
  cases hr'.symm.trans hr
  cases hrep with
  | started hi h =>
    have hnot : ¬(isRecv i = true ∨ isUpdate i = true) := fun hc => by simp [isInit_eq_false hc] at hi
    exact ⟨fun _ _ => h, fun hc => absurd hc hnot, by simp [h, Info.empty], by simp [h, Info.empty]⟩
  | quiet hl hf h =>
    rw [← changes_eq_empty hl hf] at h
    exact ⟨fun _ _ => h.trans (changes_eq_empty hl hf), fun _ => by simp [h, changes], by simp [h, changes],
      h ▸ changes_exclusive s u⟩
  | tracked hi h =>
    exact ⟨fun hn1 hn2 => by simp [hn1, hn2] at hi, fun _ => by simp [h, changes], by simp [h, changes],
      h ▸ changes_exclusive s u⟩
  | substituted hi hst hq h =>
    exact ⟨fun hn => by simp [hn] at hi, fun _ => by simp [h, changes], fun _ => ⟨hi, hst, hq⟩,
      h ▸ changes_exclusive s u⟩

end Sys2Proof.Machine
end

section
/-!
PROOFS. The family 40_crc8.md: one round of the checksum as arithmetic and as a linear map, and from it the laws of the checksum
(R120 to R124) and the meaning of the command CRC8 (R122).
-/

namespace Sys2Proof.Machine

/-! ## One round (R121) -/

/-- Bit 7 of a byte, as a bound on its value. -/
theorem getLsbD_seven_eq_decide (x : Byte) : x.getLsbD 7 = decide (128 ≤ x.toNat) := by
  have h := BitVec.msb_eq_decide x
  rwa [BitVec.msb_eq_getLsbD_last] at h

theorem shiftLeft_one_eq_ofNat (x : Byte) : x <<< 1 = BitVec.ofNat 8 (2 * x.toNat) := by
  apply BitVec.eq_of_toNat_eq
  rw [BitVec.toNat_shiftLeft, BitVec.toNat_ofNat, Nat.shiftLeft_eq, pow_one, Nat.mul_comm]

theorem crc8Round_eq_double (x : Byte) :
    crc8Round x =
      if 128 ≤ x.toNat then BitVec.ofNat 8 (2 * x.toNat % 256) ^^^ 0x07 else BitVec.ofNat 8 (2 * x.toNat) := by
  have hmod : BitVec.ofNat 8 (2 * x.toNat % 256) = BitVec.ofNat 8 (2 * x.toNat) :=
    BitVec.eq_of_toNat_eq (by simp)
  simp only [crc8Round, getLsbD_seven_eq_decide, shiftLeft_one_eq_ofNat, hmod, decide_eq_true_eq]

@[simp] theorem crc8Round_zero : crc8Round 0 = 0 := rfl

/-- A round is linear: whether 0x07 goes in is itself the exclusive-or of the two top bits. -/
theorem crc8Round_xor (x y : Byte) : crc8Round (x ^^^ y) = crc8Round x ^^^ crc8Round y := by
  unfold crc8Round
  rw [BitVec.getLsbD_xor, BitVec.shiftLeft_xor_distrib]
  generalize x <<< 1 = u, y <<< 1 = v
  cases x.getLsbD 7 <;> cases y.getLsbD 7
  case false.false => rfl
  case false.true => exact BitVec.xor_assoc u v 0x07
  case true.false =>
    show u ^^^ v ^^^ 0x07 = u ^^^ 0x07 ^^^ v
    ac_rfl
  case true.true =>
    calc u ^^^ v = u ^^^ v ^^^ (0x07 ^^^ 0x07) := by simp
      _ = u ^^^ 0x07 ^^^ (v ^^^ 0x07) := by ac_rfl

theorem repeat_crc8Round_xor (n : Nat) (x y : Byte) :
    Nat.repeat crc8Round n (x ^^^ y) = Nat.repeat crc8Round n x ^^^ Nat.repeat crc8Round n y := by
  induction n with
  | zero => rfl
  | succ n ih => exact (congrArg crc8Round ih).trans (crc8Round_xor ..)

/-! ## One byte (R121) -/

/-- A byte equal to the accumulator clears it. -/
@[simp] theorem crc8Step_self (x : Byte) : crc8Step x x = 0 := by
  unfold crc8Step
  rw [BitVec.xor_self]
  rfl

theorem crc8Step_xor (a a' b b' : Byte) :
    crc8Step (a ^^^ a') (b ^^^ b') = crc8Step a b ^^^ crc8Step a' b' := by
  have hswap : (a ^^^ a') ^^^ (b ^^^ b') = (a ^^^ b) ^^^ (a' ^^^ b') := by ac_rfl
  unfold crc8Step
  rw [hswap, repeat_crc8Round_xor]

/-! ## A message (R120, R123) -/

theorem crc8_append_singleton (m : Bytes) (b : Byte) : crc8 (m ++ [b]) = crc8Step (crc8 m) b :=
  crc8_append m [b]

theorem crc8_replicate_zero (n : Nat) : crc8 (List.replicate n 0) = 0 := by
  induction n with
  | zero => exact crc8_nil
  | succ n ih => rw [List.replicate_succ', crc8_append_singleton, ih, crc8Step_self]

theorem crc8_replicate_zero_append (n : Nat) (x : Bytes) : crc8 (List.replicate n 0 ++ x) = crc8 x := by
  rw [crc8_append, crc8_replicate_zero]
  rfl

/-- The fold is linear in the accumulators and the messages together, which is what the induction needs. -/
theorem foldl_crc8Step_zipWith_xor {x y : Bytes} (h : x.length = y.length) (a a' : Byte) :
    (List.zipWith (· ^^^ ·) x y).foldl crc8Step (a ^^^ a') = x.foldl crc8Step a ^^^ y.foldl crc8Step a' := by
  induction x generalizing y a a' with
  | nil =>
    cases List.length_eq_zero_iff.mp h.symm
    rfl
  | cons b x ih =>
    cases y with
    | nil => cases h
    | cons b' y =>
      rw [List.zipWith_cons_cons, List.foldl_cons, crc8Step_xor]
      exact ih (Nat.succ.inj h) _ _

theorem crc8_zipWith_xor {x y : Bytes} (h : x.length = y.length) :
    crc8 (List.zipWith (· ^^^ ·) x y) = crc8 x ^^^ crc8 y :=
  foldl_crc8Step_zipWith_xor h 0 0

/-! ## The obligations -/

/-- Settles O16: composition, zeros, one byte and linearity are the lemmas above. -/
theorem checksumLaws : Obligations.ChecksumLaws :=
  ⟨crc8_append, ⟨crc8Step_self 0, crc8_replicate_zero, crc8_replicate_zero_append⟩, fun _ => rfl,
    fun _ _ h => crc8_zipWith_xor h⟩

/-- Settles O15: the statement's arithmetic round is the model's round, and a step repeats it eight times. -/
theorem checksumIsComputedBitByBit : Obligations.ChecksumIsComputedBitByBit := by
  refine ⟨crc8_nil, crc8_append_singleton, fun acc b => ?_⟩
  simp only [← crc8Round_eq_double]
  rfl

/-- Settles O17: the accumulator meets a byte equal to it. -/
theorem checksumOfAMessageWithItsChecksumIsZero : Obligations.ChecksumOfAMessageWithItsChecksumIsZero := by
  intro m
  rw [crc8_append_singleton, crc8Step_self]

/-- Settles O18: `CRC8` only responds, and zero-extension keeps the checksum's value. -/
theorem crc8AnswersTheChecksum : Obligations.Crc8AnswersTheChecksum := by
  intro a b t d s
  rw [exec_crc8, ← BitVec.ofNat_toNat]
  rfl

end Sys2Proof.Machine
end

section
/-!
PROOFS. The family 41_codec.md: the encoder's frame byte by byte and the round trip (R131 to R133, R149), the verdicts of
VALIDATE and DECODE (R140 to R148), and the corruptions that the checksum catches (R150).
-/

namespace Sys2Proof.Machine

/-! ## The capacity and the type operand (R8, R82) -/

theorem maxPayload_eq (c : Config) : maxPayload c = c.frameSize - 6 := Nat.sub_sub c.frameSize 5 1

/-- A type operand inside the enumeration is the number of its type (R82). -/
theorem eq_typeCode_and_mem_of_typeOfByte {a : Byte} {ty : PacketType} (h : typeOfByte a = some ty) :
    a = typeCode ty ∧ a ∈ [0x01, 0x02, 0x03, 0x04] := by
  refine ⟨typeOfByte_eq_some h, ?_⟩
  by_contra hmem
  simp [(typeOfByte_eq_none_iff a).2 hmem] at h

/-! ## The encoder's frame, byte by byte (R131, R132) -/

/-- The header of a new frame: `flags` is 0x00 and the last byte is the payload's length (R84, R131). -/
def newHeader (c : Config) (ty : PacketType) (p : Bytes) (q : Byte) : Bytes :=
  [c.protocolVersion, typeCode ty, q, 0x00, BitVec.ofNat 8 p.length]

theorem encodeFrame_of_le {c : Config} {p : Bytes} (h : p.length ≤ c.frameSize - 6) (ty : PacketType) (q : Byte) :
    encodeFrame c ty p q =
      some (newHeader c ty p q ++ p ++ List.replicate (c.frameSize - 6 - p.length) 0x00 ++
        [crc8 (newHeader c ty p q ++ p)]) := by
  rw [← maxPayload_eq] at h ⊢
  rcases encodeFrame_cases c ty p q with ⟨-, he⟩ | ⟨hlt, -⟩
  · rw [he, frameBody_take]
    rfl
  · omega

theorem encodeFrame_eq_none_iff {c : Config} {ty : PacketType} {p : Bytes} {q : Byte} :
    encodeFrame c ty p q = none ↔ c.frameSize - 6 < p.length := by
  rw [← maxPayload_eq]
  rcases encodeFrame_cases c ty p q with ⟨hle, he⟩ | ⟨hlt, he⟩
  · simp [he, hle]
  · simp [he, hlt]

/-- Settles O23: with room for header and checksum, the capacity is what remains. -/
theorem encoderRefusesOnlyOversize : Obligations.EncoderRefusesOnlyOversize := by
  intro c ty p q h6
  rw [encodeFrame_eq_none_iff]
  omega

/-- Settles O19: the check on the type, then the encoder's own check on the size, then its frame. -/
theorem encodeFollowsItsSteps : Obligations.EncodeFollowsItsSteps := by
  intro a b t d s
  rw [exec_encode]
  rcases checkType_cases a (encodeWork b d) s with ⟨ty, hty, h⟩ | ⟨hty, h⟩ <;> rw [h]
  · obtain ⟨rfl, hmem⟩ := eq_typeCode_and_mem_of_typeOfByte hty
    rw [if_neg (not_not.2 hmem), encodeWork]
    by_cases hd : s.cfg.frameSize - 6 < d.length
    · rw [if_pos hd, encodeFrame_eq_none_iff.2 hd]
      rfl
    · rw [if_neg hd, encodeFrame_of_le (not_lt.1 hd)]
      rfl
  · rw [if_pos ((typeOfByte_eq_none_iff a).1 hty)]
    rfl

/-! ## Round trip (R149) -/

/-- What the decoder reads of a new frame beyond its verdict: the type, the payload's length and the payload. -/
theorem fields_encodeFrame {c : Config} {ty : PacketType} {p f : Bytes} {q : Byte} (hc : c.Legal)
    (hp : p.length ≤ c.frameSize - 6) (h : encodeFrame c ty p q = some f) :
    frameType f = typeCode ty ∧ framePayloadLen f = p.length ∧ framePayload f = p := by
  obtain ⟨-, h255, -⟩ := hc
  rw [encodeFrame_of_le hp] at h
  obtain rfl := Option.some.inj h
  have hlen : (BitVec.ofNat 8 p.length).toNat = p.length := by
    rw [BitVec.toNat_ofNat]
    omega
  refine ⟨rfl, hlen, ?_⟩
  simp only [framePayload, framePayloadLen, byteAt, sliceAt, newHeader]
  simp [hlen]

theorem decodeFrame_encodeFrame {c : Config} {ty : PacketType} {p f : Bytes} {q : Byte} (hc : c.Legal)
    (hp : p.length ≤ c.frameSize - 6) (h : encodeFrame c ty p q = some f) :
    decodeFrame c f ty p.length = .ok p := by
  obtain ⟨htype, hlen, hpay⟩ := fields_encodeFrame hc hp h
  exact decodeFrame_eq_ok.2 ⟨validateReason_encodeFrame hc h, htype, hlen, hpay.symm⟩

/-- Settles O22: a payload that fits is encoded, and the frame is valid and holds the payload. -/
theorem encodedFramesDecodeToTheirPayload : Obligations.EncodedFramesDecodeToTheirPayload := by
  intro c ty p q hc hp
  have hf := encodeFrame_of_le hp ty q
  exact ⟨_, hf, encodeFrame_length hc.1 hf, decodeFrame_encodeFrame hc hp hf⟩

/-! ## The verdicts of VALIDATE and DECODE (R140 to R147) -/

theorem frameCovered_eq_take (f : Bytes) : frameCovered f = f.take (5 + (f.getD 4 0).toNat) := sliceAt_zero ..

theorem validate_iff {c : Config} {f : Bytes} :
    validate c f = true ↔
      f.getD 0 0 = c.protocolVersion ∧ (f.getD 4 0).toNat ≤ c.frameSize - 6 ∧
        crc8 (f.take (5 + (f.getD 4 0).toNat)) = f.getD (c.frameSize - 1) 0 := by
  rw [validate, decide_eq_true_iff, validateReason_eq_none, frameCovered_eq_take, maxPayload_eq]
  rfl

/-- Settles O20: after the check on `N`, `V` is the model's verdict, which is the three tests. -/
theorem validateAnswersTheVerdict : Obligations.ValidateAnswersTheVerdict := by
  intro a b t d s
  by_cases hd : d.length = s.cfg.frameSize
  · rw [exec_validate, checkLength, if_pos (decide_eq_true hd), if_neg (not_not.2 hd)]
    simp only [validate_iff]
    rfl
  · rw [if_pos hd]
    exact next_checkLength_of_ne hd _ s

theorem decodeFrame_of_firstFailing_some {c : Config} {f : Bytes} {ty : PacketType} {el : Nat} {st : Status}
    (h : firstFailing c f (typeCode ty) el = some st) :
    ∃ r, decodeFrame c f ty el = .error r ∧ rejectionStatus r = st := by
  have hcases := decodeFrame_firstFailing c f ty el
  rwa [h] at hcases

theorem decodeFrame_of_firstFailing_none {c : Config} {f : Bytes} {ty : PacketType} {el : Nat}
    (h : firstFailing c f (typeCode ty) el = none) : decodeFrame c f ty el = .ok ((f.drop 5).take el) := by
  have hcases := decodeFrame_firstFailing c f ty el
  rw [h] at hcases
  obtain ⟨hok, hel⟩ := hcases
  rw [hok, hel]

/-- Settles O21: the checks on `N` and on the type, then the decoder's first failing test or its payload. -/
theorem decodeFollowsItsSteps : Obligations.DecodeFollowsItsSteps := by
  intro a b t d s
  by_cases hd : d.length = s.cfg.frameSize
  · rw [exec_decode, checkLength, if_pos (decide_eq_true hd), if_neg (not_not.2 hd)]
    rcases checkType_cases a (decodeWork b d) s with ⟨ty, hty, h⟩ | ⟨hty, h⟩ <;> rw [h]
    · obtain ⟨rfl, hmem⟩ := eq_typeCode_and_mem_of_typeOfByte hty
      rw [if_neg (not_not.2 hmem), decodeWork]
      cases hfail : firstFailing s.cfg d (typeCode ty) b.toNat with
      | some st =>
        obtain ⟨r, hr, rfl⟩ := decodeFrame_of_firstFailing_some hfail
        rw [hr]
        rfl
      | none =>
        rw [decodeFrame_of_firstFailing_none hfail]
        rfl
    · rw [if_pos ((typeOfByte_eq_none_iff a).1 hty)]
      rfl
  · rw [if_pos hd]
    exact next_checkLength_of_ne hd _ s

/-! ## The length of a returned payload (R148) -/

/-- The length test bounds the declared payload by the frame, so it is not cut short (R146, R148). -/
theorem length_of_decodeFrame_eq_ok {c : Config} {f p : Bytes} {et : PacketType} {el : Nat}
    (hf : f.length = c.frameSize) (h : decodeFrame c f et el = .ok p) : p.length = el := by
  obtain ⟨hvalid, -, hlen, rfl⟩ := decodeFrame_eq_ok.1 h
  obtain ⟨-, hfits, -⟩ := validateReason_eq_none.1 hvalid
  rw [maxPayload_eq] at hfits
  rw [framePayload, sliceAt, List.length_take, List.length_drop]
  omega

theorem rejectionStatus_ne_ok (r : Rejection) : rejectionStatus r ≠ .ok := by cases r <;> decide

/-- DECODE after its checks (R147). -/
theorem decodeWork_cases (len : Byte) (f : Bytes) (ty : PacketType) (s : State) :
    (∃ p, decodeFrame s.cfg f ty len.toNat = .ok p ∧ decodeWork len f ty s = respond .ok Info.empty 0 p s) ∨
    (∃ st, st ≠ .ok ∧ decodeWork len f ty s = respondError st s) := by
  unfold decodeWork
  cases decodeFrame s.cfg f ty len.toNat with
  | ok p => exact .inl ⟨p, rfl, rfl⟩
  | error r => exact .inr ⟨_, rejectionStatus_ne_ok r, rfl⟩

/-- Everything DECODE can do: an error, or the payload of a frame that the decoder accepts. -/
theorem exec_decode_cases (a b : Byte) (t : U32) (d : Bytes) (s : State) :
    (∃ st, st ≠ .ok ∧ exec (.decode a b t d) s = .next (respondError st s)) ∨
    (∃ ty p, d.length = s.cfg.frameSize ∧ decodeFrame s.cfg d ty b.toNat = .ok p ∧
      exec (.decode a b t d) s = .next (respond .ok Info.empty 0 p s)) := by
  rw [exec_decode]
  rcases checkLength_cases (d.length = s.cfg.frameSize) (checkType a (decodeWork b d)) s with ⟨hd, h⟩ | ⟨-, h⟩ <;>
    rw [h]
  · rcases checkType_cases a (decodeWork b d) s with ⟨ty, -, h⟩ | ⟨-, h⟩ <;> rw [h]
    · rcases decodeWork_cases b d ty s with ⟨p, hp, h⟩ | ⟨st, hst, h⟩ <;> rw [h]
      · exact .inr ⟨ty, p, of_decide_eq_true hd, hp, rfl⟩
      · exact .inl ⟨st, hst, rfl⟩
    · exact .inl ⟨_, by decide, rfl⟩
  · exact .inl ⟨_, by decide, rfl⟩

theorem not_accepted_of_respondError {st : Status} (hst : st ≠ .ok) {s : State} {r : Response}
    (h : (respondError st s).response = some r) : accepted r = false := by
  obtain rfl := Option.some.inj h
  simp [accepted, hst]

/-- A substituted payload is not an accepted one (R261). -/
theorem not_accepted_of_finishWithout {ty : PacketType} {out : Status} (hout : out ≠ .ok) {s : State} {r : Response}
    (h : (finishWithout ty out s).response = some r) : accepted r = false := by
  rcases finishWithout_cases ty out s with ⟨-, he⟩ | ⟨-, he⟩ <;> rw [he] at h
  · obtain rfl := Option.some.inj h
    rfl
  · exact not_accepted_of_respondError hout h

theorem length_of_accepted_recvCommand {ty : PacketType} {t : U32} {s : State} {r : Response}
    (h : (recvCommand (typeCode ty) t [] s).response = some r) (hr : accepted r = true) :
    r.q.length = expectedLen s.cfg ty := by
  have hno : accepted r ≠ false := by simp [hr]
  rcases recvCommand_cases (typeCode ty) t [] s with
    ⟨-, he⟩ | ⟨-, -, he⟩ | ⟨-, -, -, he⟩ | ⟨_, -, -, -, -, he⟩ | ⟨_, -, -, -, -, -, he⟩ |
    ⟨_, _, k, -, -, -, -, -, -, he⟩ | ⟨_, f, p, -, -, hty, -, hf, hp, he⟩ <;> rw [he] at h
  · exact absurd (not_accepted_of_respondError (by decide) h) hno
  · exact absurd (not_accepted_of_respondError (by decide) h) hno
  · exact absurd (not_accepted_of_respondError (by decide) h) hno
  · exact absurd (not_accepted_of_finishWithout (by decide) h) hno
  · exact absurd (not_accepted_of_finishWithout (by decide) h) hno
  · exact absurd (not_accepted_of_finishWithout (rejectionStatus_ne_ok k) h) hno
  · obtain rfl := Option.some.inj ((typeOfByte_typeCode ty).symm.trans hty)
    obtain rfl := Option.some.inj h
    exact length_of_decodeFrame_eq_ok hf hp

/-- Settles O37: both commands return what the decoder accepted, or no accepted payload. -/
theorem payloadsAreNeitherCutNorPadded : Obligations.PayloadsAreNeitherCutNorPadded := by
  refine ⟨fun ty b t i s u r hi hu hr hacc => ?_, fun a b t d s u r hu hr => ?_⟩
  · cases (exec_of_recvForm hi s).symm.trans hu
    exact length_of_accepted_recvCommand hr hacc
  · rcases exec_decode_cases a b t d s with ⟨st, hst, h⟩ | ⟨ty, p, hd, hp, h⟩ <;> cases h.symm.trans hu <;>
      obtain rfl := Option.some.inj hr
    · exact (if_neg hst).symm
    · exact length_of_decodeFrame_eq_ok hd hp

/-! ## A changed byte changes the checksum (R150) -/

theorem eq_zero_of_crc8Round_eq_zero : ∀ x : Byte, crc8Round x = 0 → x = 0 := by decide

/-- A round is linear and kills only 0, so it is one-to-one. -/
theorem crc8Round_injective : Function.Injective crc8Round := by
  intro x y h
  refine BitVec.xor_eq_zero_iff.1 (eq_zero_of_crc8Round_eq_zero _ ?_)
  rw [crc8Round_xor, h, BitVec.xor_self]
  rfl

theorem repeat_crc8Round_injective (n : Nat) : Function.Injective (Nat.repeat crc8Round n) := by
  induction n with
  | zero => exact Function.injective_id
  | succ n ih => exact crc8Round_injective.comp ih

theorem crc8Step_left_injective (b : Byte) : Function.Injective (crc8Step · b) := fun _ _ h =>
  (BitVec.xor_left_inj _).1 (repeat_crc8Round_injective 8 h)

theorem crc8Step_right_injective (a : Byte) : Function.Injective (crc8Step a) := fun _ _ h =>
  (BitVec.xor_right_inj _).1 (repeat_crc8Round_injective 8 h)

/-- A difference in the accumulator is never lost again. -/
theorem foldl_crc8Step_injective (m : Bytes) : Function.Injective (m.foldl crc8Step) := by
  induction m with
  | nil => exact Function.injective_id
  | cons b m ih => exact ih.comp (crc8Step_left_injective b)

/-- Messages that differ in one byte have different checksums. -/
theorem crc8_set_injective {m : Bytes} {i : Nat} (hi : i < m.length) : Function.Injective (crc8 <| m.set i ·) := by
  intro v w h
  simp only [List.set_eq_take_append_cons_drop, if_pos hi, crc8_append, List.foldl_cons] at h
  exact crc8Step_right_injective _ (foldl_crc8Step_injective _ h)

theorem crc8_set_ne {m : Bytes} {i : Nat} {v : Byte} (hi : i < m.length) (hv : v ≠ byteAt m i) :
    crc8 (m.set i v) ≠ crc8 m := by
  intro h
  refine hv (crc8_set_injective hi ?_)
  simpa [byteAt, hi] using h

/-! ## A valid frame with one byte changed (R150) -/

theorem byteAt_set_self {f : Bytes} {i : Nat} (hi : i < f.length) (v : Byte) : byteAt (f.set i v) i = v := by
  simp [byteAt, hi]

theorem byteAt_set_of_ne {f : Bytes} {i j : Nat} (h : i ≠ j) (v : Byte) : byteAt (f.set i v) j = byteAt f j := by
  simp [byteAt, List.getElem?_set_ne h]

theorem framePayloadLen_set {f : Bytes} {i : Nat} (hi : i ≠ 4) (v : Byte) :
    framePayloadLen (f.set i v) = framePayloadLen f := congrArg BitVec.toNat (byteAt_set_of_ne hi v)

theorem frameCovered_set {f : Bytes} {i : Nat} (hi : i ≠ 4) (v : Byte) :
    frameCovered (f.set i v) = (frameCovered f).set i v := by
  simp only [frameCovered, sliceAt_zero, framePayloadLen_set hi, List.take_set]

/-- A frame whose checksum byte is not the checksum of what it covers is not valid (R140). -/
theorem validate_eq_false_of_crc8_ne {c : Config} {f : Bytes} (h : crc8 (frameCovered f) ≠ frameChecksum c f) :
    validate c f = false :=
  decide_eq_false fun hvalid => h (validateReason_eq_none.1 hvalid).2.2

section
variable {c : Config} {f : Bytes} (hc : c.Legal) (hf : f.length = c.frameSize) (hvalid : validate c f = true)
include hc hf hvalid

/-- Header and declared payload end before the checksum byte, and they have that checksum. -/
theorem covered_of_validate :
    5 + framePayloadLen f ≤ c.frameSize - 1 ∧ (frameCovered f).length = 5 + framePayloadLen f ∧
      crc8 (frameCovered f) = frameChecksum c f := by
  obtain ⟨h6, -⟩ := hc
  obtain ⟨-, hfits, hsum⟩ := validateReason_eq_none.1 (of_decide_eq_true hvalid)
  rw [maxPayload_eq] at hfits
  refine ⟨by omega, ?_, hsum⟩
  rw [frameCovered, sliceAt_zero, List.length_take]
  omega

/-- A changed checksum byte differs from the checksum, which stays (R150 b). -/
theorem validate_set_checksum {v : Byte} (hv : v ≠ byteAt f (c.frameSize - 1)) :
    validate c (f.set (c.frameSize - 1) v) = false := by
  obtain ⟨hend, hlen, hsum⟩ := covered_of_validate hc hf hvalid
  apply validate_eq_false_of_crc8_ne
  rw [frameChecksum, byteAt_set_self (by omega), frameCovered_set (by omega), List.set_eq_of_length_le (by omega), hsum]
  exact hv.symm

/-- A changed byte of the covered part, other than the length byte, changes the checksum but not the checksum byte
(R150 c, d). -/
theorem validate_set_covered {i : Nat} {v : Byte} (hi4 : i ≠ 4) (hi : i < 5 + framePayloadLen f) (hv : v ≠ byteAt f i) :
    validate c (f.set i v) = false := by
  obtain ⟨hend, hlen, hsum⟩ := covered_of_validate hc hf hvalid
  have hbyte : byteAt (frameCovered f) i = byteAt f i := by
    rw [frameCovered, sliceAt_zero]
    exact byteAt_eq_of_take_eq (n := 5 + framePayloadLen f) (by simp) hi
  apply validate_eq_false_of_crc8_ne
  rw [frameChecksum, byteAt_set_of_ne (by omega), frameCovered_set hi4, ← frameChecksum, ← hsum]
  exact crc8_set_ne (hlen ▸ hi) (hbyte ▸ hv)

end

theorem xor_bit_ne_self (x : Byte) {k : Nat} (hk : k < 8) : x ^^^ (1#8 <<< k) ≠ x := by
  have hbit : ∀ k < 8, 1#8 <<< k ≠ 0#8 := by decide
  exact fun h => hbit k hk ((BitVec.xor_right_inj x).1 (h.trans (BitVec.xor_zero).symm))

/-- Settles O26: each of these changes breaks the equality of the checksum byte and the checksum. -/
theorem singleBitFlipsAreCaught : Obligations.SingleBitFlipsAreCaught := by
  refine fun c f hc hf hvalid => ⟨fun v hv => validate_set_checksum hc hf hvalid hv, fun i k hk hi => ?_⟩
  have hcovered : i ≠ 4 ∧ i < 5 + framePayloadLen f := by
    rcases hi with hi | ⟨hlo, hhi⟩
    · omega
    · exact ⟨by omega, hhi⟩
  exact validate_set_covered hc hf hvalid hcovered.1 hcovered.2 (xor_bit_ne_self _ hk)

/-! ## The length byte is not protected (R150 e, U7) -/

/-- The frame of V-C14: CMD with sequence 2 and payload `10 .. 21`. Its checksum 0x27 is also that
of the frame that declares the first 16 of these bytes. -/
def lengthFlipFrame : Bytes :=
  [0x01, 0x01, 0x02, 0x00, 0x12] ++ (List.range 18).map (fun k => BitVec.ofNat 8 (0x10 + k)) ++
    List.replicate 8 0x00 ++ [0x27]

theorem crc8_lengthFlipFrame :
    crc8 (lengthFlipFrame.take 23) = 0x27 ∧ crc8 ((lengthFlipFrame.set 4 0x10).take 21) = 0x27 := by
  decide +kernel

/-- Settles O27: both lengths declare a payload with the frame's checksum, and only 18 is a Command's length. -/
theorem aFlippedLengthByteMaySurvive : Obligations.AFlippedLengthByteMaySurvive := by
  obtain ⟨hsum, hsum'⟩ := crc8_lengthFlipFrame
  have hvalid : validate (Config.ref .aircraft) lengthFlipFrame = true :=
    validate_iff.2 ⟨rfl, by decide, hsum⟩
  have hvalid' : validate (Config.ref .aircraft) (lengthFlipFrame.set 4 0x10) = true :=
    validate_iff.2 ⟨rfl, by decide, hsum'⟩
  refine ⟨lengthFlipFrame, rfl, hvalid, hvalid', ?_⟩
  show decodeFrame _ (lengthFlipFrame.set 4 0x10) .command 18 = _
  rw [decodeFrame, of_decide_eq_true hvalid']
  rfl

end Sys2Proof.Machine
end

section
/-!
PROOFS. The family 42_tracker.md: the tracker's operations in the terms of the statements, UPDATE step by step (R170), the quality
(R176), who moves the tracker (R177), and what silent ticks do to the link (R170, R233).
-/

namespace Sys2Proof.Machine

/-! ## The triggers (R165 to R167) -/

theorem linkFresh_iff {t : U32} {s : State} :
    linkFresh t s = true ↔
      elapsed t s.lastRxTime ≤ s.cfg.linkTimeoutMs.toNat ∧ s.consecutiveMissed.toNat < s.cfg.lossThreshold.toNat := by
  rw [linkFresh_eq_true, elapsed_toNat, elapsed]

theorem linkFresh_eq_decide (t : U32) (s : State) :
    linkFresh t s = decide (elapsed t s.lastRxTime ≤ s.cfg.linkTimeoutMs.toNat ∧
      s.consecutiveMissed.toNat < s.cfg.lossThreshold.toNat) := by
  rw [Bool.eq_iff_iff, linkFresh_iff, decide_eq_true_iff]

/-- Settles O44: a transition to Active clears the count, which then is below the threshold; otherwise the count that
the triggers read is the count that stays. -/
theorem evalLinkFollowsTheTransitionRule : Obligations.EvalLinkFollowsTheTransitionRule := by
  intro t s hthreshold
  refine ⟨rfl, ?_, by simp [evalLink], by simp [evalLink, evalInfo, Info.empty]⟩
  show linkFresh t s = true ↔ elapsed t s.lastRxTime ≤ s.cfg.linkTimeoutMs.toNat ∧
    (if !s.linkActive && linkFresh t s then 0 else s.consecutiveMissed).toNat < s.cfg.lossThreshold.toNat
  split
  case isTrue hup =>
    have hfresh : linkFresh t s = true := (Bool.and_eq_true_iff.1 hup).2
    have hzero : (0 : U16).toNat < s.cfg.lossThreshold.toNat := hthreshold
    exact iff_of_true hfresh ⟨(linkFresh_iff.1 hfresh).1, hzero⟩
  case isFalse => exact linkFresh_iff

/-- A gap above the threshold reaches it, capped or not, since the threshold is no more than the count can hold. -/
theorem satAdd16_missedOf_lt_iff (c : Config) (g : Byte) (x : U16) :
    (satAdd16 x (missedOf c g)).toNat < c.lossThreshold.toNat ↔
      (satAdd16 x g.toNat).toNat < c.lossThreshold.toNat := by
  simp only [satAdd16_toNat, missedOf]
  omega

/-- Settles O45: the counts alone differ, and they stand on the same side of the threshold. -/
theorem gapCapNeverChangesTheLink : Obligations.GapCapNeverChangesTheLink := by
  intro seq t s
  rw [Bool.eq_iff_iff, linkFresh_iff, linkFresh_iff]
  simp only [addMissed_cfg, addMissed_lastRxTime, addMissed_consecutiveMissed, satAdd16_missedOf_lt_iff]

/-! ## The quality (R176) -/

theorem quality_of_le {sent missed : U32} (h : sent.toNat ≤ missed.toNat) : quality sent missed = 0 := by
  simp [quality, h]

theorem quality_of_lt {sent missed : U32} (h : missed.toNat < sent.toNat) :
    quality sent missed = BitVec.ofNat 8 (100 * (sent.toNat - missed.toNat) / sent.toNat) := by
  have hsent : sent.toNat ≠ 0 := by omega
  simp [quality, hsent, h]

theorem quality_eq_ofNat (sent missed : U32) :
    quality sent missed = BitVec.ofNat 8
      (if sent.toNat ≤ missed.toNat then 0 else 100 * (sent.toNat - missed.toNat) / sent.toNat) := by
  split
  case isTrue h => exact quality_of_le h
  case isFalse h => exact quality_of_lt (by omega)

/-- A percentage fits its register. -/
theorem toNat_quality_of_lt {sent missed : U32} (h : missed.toNat < sent.toNat) :
    (quality sent missed).toNat = 100 * (sent.toNat - missed.toNat) / sent.toNat := by
  have hle : 100 * (sent.toNat - missed.toNat) / sent.toNat ≤ 100 :=
    Nat.div_le_of_le_mul (by omega)
  rw [quality_of_lt h, BitVec.toNat_ofNat, Nat.mod_eq_of_lt (by omega)]

/-- The bounds of the floor. -/
theorem quality_bounds {sent missed : U32} (h : missed.toNat < sent.toNat) :
    sent.toNat * (quality sent missed).toNat ≤ 100 * (sent.toNat - missed.toNat) ∧
    100 * (sent.toNat - missed.toNat) < sent.toNat * ((quality sent missed).toNat + 1) := by
  rw [toNat_quality_of_lt h]
  exact ⟨Nat.mul_div_le .., Nat.lt_mul_div_succ _ (by omega)⟩

theorem quality_eq_hundred_iff {sent missed : U32} : quality sent missed = 100 ↔ missed = 0 ∧ sent ≠ 0 := by
  have hhundred : (100 : Byte).toNat = 100 := rfl
  have hzero : (0 : U32).toNat = 0 := rfl
  rw [← BitVec.toNat_inj, ← BitVec.toNat_inj, Ne, ← BitVec.toNat_inj, hhundred, hzero]
  rcases Nat.lt_or_ge missed.toNat sent.toNat with hlt | hge
  · obtain ⟨hlow, hhigh⟩ := quality_bounds hlt
    constructor
    · intro hq
      rw [hq] at hlow
      omega
    · rintro ⟨hm, hs⟩
      have hdiv : 100 * (sent.toNat - missed.toNat) / sent.toNat = 100 := by
        rw [hm, Nat.sub_zero, Nat.mul_div_cancel _ (Nat.pos_of_ne_zero hs)]
      exact (toNat_quality_of_lt hlt).trans hdiv
  · have hq : (quality sent missed).toNat = 0 := by rw [quality_of_le hge]; rfl
    omega

/-- Settles O46: the formula has the bounds of the floor, and from them it is 100 only when nothing is missed. -/
theorem qualityIsThePercentage : Obligations.QualityIsThePercentage := fun sent missed =>
  ⟨quality_le sent missed, fun hsent => quality_of_le (by simp [hsent]), quality_of_le, quality_bounds,
    quality_eq_hundred_iff⟩

/-! ## UPDATE (R170) -/

/-- The missed frames in a row after a tick, before the link is evaluated (R170 steps 2 and 3). -/
def tickedInARow (s : State) : Nat :=
  if s.rxSinceTick then s.consecutiveMissed.toNat else satSum 16 s.consecutiveMissed.toNat 1

/-- The missed frames in all after a tick (R170 steps 2 and 3). -/
def tickedInAll (s : State) : Nat :=
  if s.rxSinceTick then s.statMissed.toNat else satSum 32 s.statMissed.toNat 1

theorem toNat_countTick_consecutiveMissed (s : State) : (countTick s).consecutiveMissed.toNat = tickedInARow s := by
  rcases countTick_cases s with ⟨hs, h⟩ | ⟨hs, h⟩ <;> simp [h, hs, tickedInARow, satSum]

theorem toNat_countTick_statMissed (s : State) : (countTick s).statMissed.toNat = tickedInAll s := by
  rcases countTick_cases s with ⟨hs, h⟩ | ⟨hs, h⟩ <;> simp [h, hs, tickedInAll, satSum]

theorem countTick_eq_ofNat (s : State) :
    countTick s = { s with
      rxSinceTick := false
      consecutiveMissed := BitVec.ofNat 16 (tickedInARow s)
      statMissed := BitVec.ofNat 32 (tickedInAll s) } := by
  rw [← toNat_countTick_consecutiveMissed, ← toNat_countTick_statMissed, BitVec.ofNat_toNat, BitVec.ofNat_toNat]
  rcases countTick_cases s with ⟨-, h⟩ | ⟨hs, h⟩ <;> rw [h]
  · rfl
  · rw [← hs]; rfl

/-- Whether the link is Active after a tick at `t` (R170 step 4, R167). -/
def aliveAfterTick (t : U32) (s : State) : Bool :=
  decide (elapsed t s.lastRxTime ≤ s.cfg.linkTimeoutMs.toNat ∧ tickedInARow s < s.cfg.lossThreshold.toNat)

theorem linkFresh_countTick (t : U32) (s : State) : linkFresh t (countTick s) = aliveAfterTick t s := by
  have htime : (countTick s).lastRxTime = s.lastRxTime := by rw [countTick_eq_ofNat]
  rw [linkFresh_eq_decide, countTick_cfg, htime, toNat_countTick_consecutiveMissed, aliveAfterTick]

/-- `EVAL_LINK` leaves the counts in all, and the quality is theirs (R170 step 5). -/
theorem quality_evalLink_countTick (t : U32) (s : State) :
    quality (evalLink t (countTick s)).2.statSent (evalLink t (countTick s)).2.statMissed = BitVec.ofNat 8
      (if s.statSent.toNat ≤ tickedInAll s then 0
        else 100 * (s.statSent.toNat - tickedInAll s) / s.statSent.toNat) := by
  have hsent : (evalLink t (countTick s)).2.statSent = s.statSent := by rw [countTick_eq_ofNat]; rfl
  have hmissed : (evalLink t (countTick s)).2.statMissed.toNat = tickedInAll s := toNat_countTick_statMissed s
  rw [quality_eq_ofNat, hsent, hmissed]

/-- Steps 2 to 6 of UPDATE as one update of the state (R170). -/
theorem updateWork_eq_ticked (t : U32) (s : State) :
    updateWork t s = { s with
      consecutiveMissed :=
        if s.linkActive = false ∧ aliveAfterTick t s = true then 0 else BitVec.ofNat 16 (tickedInARow s)
      statMissed := BitVec.ofNat 32 (tickedInAll s)
      rxSinceTick := false
      linkActive := aliveAfterTick t s
      linkQuality := BitVec.ofNat 8 (if s.statSent.toNat ≤ tickedInAll s then 0
        else 100 * (s.statSent.toNat - tickedInAll s) / s.statSent.toNat)
      response := some ⟨.ok, ⟨false, s.linkActive && !aliveAfterTick t s, !s.linkActive && aliveAfterTick t s, false⟩,
        0, []⟩ } := by
  simp only [updateWork, storeQuality, quality_evalLink_countTick]
  simp only [evalLink, evalInfo, linkFresh_countTick]
  rw [countTick_eq_ofNat]
  simp [respond, Info.empty]

theorem exec_update_tick {s : State} (hi : s.initialized = true) (a b : Byte) (t : U32) :
    exec (.update a b t []) s = .next (updateWork t s) := by
  simp [exec_update, checkLength, checkInitialized, hi]

/-- Settles O43, by the checks of UPDATE in their order. -/
theorem updateFollowsItsSteps : Obligations.UpdateFollowsItsSteps := by
  intro a b t d s
  cases d with
  | cons x xs => rfl
  | nil =>
    rw [if_neg (not_not_intro rfl)]
    rcases checkInitialized_cases (updateWork t) s with ⟨hi, -⟩ | ⟨hi, h⟩
    · have hinit : ¬s.initialized = false := by simp [hi]
      rw [if_neg hinit, exec_update_tick hi, updateWork_eq_ticked]
      rfl
    · rw [if_pos hi]
      exact congrArg _ h

/-! ## Who moves the tracker (R177) -/

theorem isInit_isUpdate_eq_false {i : Instr} (h : isSend i = true ∨ isRecv i = true) :
    isInit i = false ∧ isUpdate i = false := by
  cases i <;> simp [isSend, isRecv] at h <;> exact ⟨rfl, rfl⟩

/-- Settles O47: of the effects of SEND and RECV an accepted frame alone writes a register of the tracker, and its response
is an accepted one. -/
theorem onlyReceptionAndTicksMoveTheTracker : Obligations.OnlyReceptionAndTicksMoveTheTracker := by
  intro i s u r hu hr hi
  obtain ⟨hnoInit, hnoUpdate⟩ := isInit_isUpdate_eq_false (hi.imp_right And.left)
  cases exec_effect hu with
  | answered => simp
  | initialized t hinit => simp [hnoInit] at hinit
  | sent => simp
  | ticked m n b q r htick => simp [hnoUpdate] at htick
  | failsafeStored => simp
  | relayed => simp [withoutFrame]
  | substituted => simp [withoutFrame]
  | received k f seq t m n b info p hrecv hn hinfo =>
    obtain rfl := Option.some.inj hr
    have hsend : isSend i ≠ true := fun h => by simp [isRecv_eq_false (.inl h)] at hrecv
    simp [hsend, accepted, hinfo] at hi

/-! ## Silent ticks (R170, R233) -/

/-- `u` is `s` after `n` ticks within the timeout with no accepted frame: the count has gone up by `n`, and the link is Active
below the threshold. -/
structure SilentTicks (s : State) (n : Nat) (u : State) : Prop where
  cfg : u.cfg = s.cfg
  initialized : u.initialized = true
  silent : u.rxSinceTick = false
  time : u.lastRxTime = s.lastRxTime
  failsafe : u.fs = s.fs
  answers : u.xcvr = s.xcvr
  missed : u.consecutiveMissed.toNat = satSum 16 s.consecutiveMissed.toNat n
  link : u.linkActive = true ↔ s.consecutiveMissed.toNat + n < s.cfg.lossThreshold.toNat

theorem afterUpdate_eq {s : State} (hi : s.initialized = true) (t : U32) : afterUpdate s t = updateWork t s := by
  rw [afterUpdate, exec_update_tick hi]

/-- A tick within the timeout counts one miss. A link that was Lost stays so: its count is at the threshold and goes up. -/
theorem silentTicks_afterUpdate {s u : State} {n : Nat} {t : U32} (h : SilentTicks s n u)
    (ht : elapsed t s.lastRxTime ≤ s.cfg.linkTimeoutMs.toNat) : SilentTicks s (n + 1) (afterUpdate u t) := by
  have hrow : tickedInARow u = satSum 16 s.consecutiveMissed.toNat (n + 1) := by
    simp only [tickedInARow, h.silent, h.missed, satSum, Bool.false_eq_true, if_false]
    omega
  have halive : aliveAfterTick t u = true ↔ s.consecutiveMissed.toNat + (n + 1) < s.cfg.lossThreshold.toNat := by
    rw [aliveAfterTick, decide_eq_true_iff, h.time, h.cfg, hrow, satSum]
    omega
  have hstays : ¬(u.linkActive = false ∧ aliveAfterTick t u = true) := by
    rintro ⟨hlost, hup⟩
    have hbelow := halive.1 hup
    have hactive : u.linkActive = true := h.link.2 (by omega)
    simp [hlost] at hactive
  rw [afterUpdate_eq h.initialized, updateWork_eq_ticked, if_neg hstays, hrow]
  refine { h with silent := rfl, missed := ?_, link := halive }
  simp only [satSum, BitVec.toNat_ofNat]
  omega

theorem silentTicks_foldl {s u : State} {n : Nat} {ts : List U32} (h : SilentTicks s n u)
    (hts : ∀ t ∈ ts, elapsed t s.lastRxTime ≤ s.cfg.linkTimeoutMs.toNat) :
    SilentTicks s (n + ts.length) (afterUpdates u ts) := by
  induction ts generalizing u n with
  | nil => exact h
  | cons t ts ih =>
    have hrest := ih (silentTicks_afterUpdate h (hts t (by simp))) fun t' ht' => hts t' (by simp [ht'])
    rw [List.length_cons, Nat.add_comm ts.length, ← Nat.add_assoc]
    exact hrest

theorem recvCommand_of_nothingWaiting {a : Byte} {ty : PacketType} {s : State} (hty : typeOfByte a = some ty)
    (hi : s.initialized = true) (ha : s.xcvr.available = false) (t : U32) :
    recvCommand a t [] s = finishWithout ty .noData (call .available s) := by
  simp [recvCommand, checkLength, checkInitialized, checkType, recvWork, xcvrAvailable, hi, hty, ha]

/-- With nothing to receive and the link Lost, an aircraft that asks for a command is answered by the mux (R201, R230). -/
theorem recvCommand_substitutes {s : State} (hi : s.initialized = true) (hrole : s.cfg.role = .aircraft)
    (hlost : s.linkActive = false) (ha : s.xcvr.available = false) (t : U32) :
    recvCommand 0x01 t [] s = substitute (call .available s) := by
  have hmux : muxApplies .command (call .available s) = true := (muxApplies_iff ..).2 ⟨hrole, rfl, hlost⟩
  have hpoll : recvCommand 0x01 t [] s = finishWithout .command .noData (call .available s) :=
    recvCommand_of_nothingWaiting (typeOfByte_typeCode .command) hi ha t
  rw [hpoll, finishWithout, if_pos hmux]

/-- Settles O48: the count goes up by one with every tick. -/
theorem silentTicksLoseTheLinkAtTheThreshold : Obligations.SilentTicksLoseTheLinkAtTheThreshold := by
  intro s ts hi hactive hsilent hbelow hts
  have hstart : SilentTicks s 0 s :=
    { cfg := rfl, initialized := hi, silent := hsilent, time := rfl, failsafe := rfl, answers := rfl
      missed := by rw [satSum]; omega
      link := iff_of_true hactive hbelow }
  have hend : SilentTicks s ts.length (afterUpdates s ts) := Nat.zero_add ts.length ▸ silentTicks_foldl hstart hts
  refine ⟨hend.link, fun hreached hrole ha b t => ?_⟩
  have hlost : (afterUpdates s ts).linkActive = false :=
    Bool.eq_false_iff.2 fun h => absurd (hend.link.1 h) (Nat.not_lt.2 hreached)
  have hanswer := recvCommand_substitutes hend.initialized (hend.cfg ▸ hrole) hlost (hend.answers ▸ ha) t
  exact ⟨_, _, (exec_recvcmd ..).trans (congrArg _ hanswer), substitute_response _, rfl, rfl, hend.failsafe⟩

end Sys2Proof.Machine
end

section
/-!
PROOFS. The family 43_session.md: INIT (R190), SEND (R195 to R197), RECV by the transceiver's answers and the decoder's
verdict (R200 to R208), and RDREG against the register table (R44, R210).
-/

namespace Sys2Proof.Machine

/-! ## INIT (R190) -/

/-- Settles O28: the check on `N`, then the INIT column, which `initSession` writes. -/
theorem initStartsANewSession : Obligations.InitStartsANewSession := by
  intro a b t d s
  cases d with
  | nil => rfl
  | cons x xs => exact next_checkLength_of_ne (Nat.succ_ne_zero xs.length) _ s

/-! ## SEND (R195 to R197) -/

theorem toNat_add_one (x : Byte) : (x + 1).toNat = (x.toNat + 1) % 256 := BitVec.toNat_add x 1

theorem add_one_eq_ofNat (x : Byte) : x + 1 = BitVec.ofNat 8 ((x.toNat + 1) % 256) := by
  rw [← toNat_add_one, BitVec.ofNat_toNat, BitVec.setWidth_eq]

/-- SEND's last steps: the call, and then success or the relayed failure (R195, R196). -/
theorem transmitFrame_eq (s : State) :
    transmitFrame s = match s.xcvr.transmit with
      | .fail => respondError .hardwareFailure (call (.transmit s.txbuf) s)
      | .ok => respondOk (countSent (call (.transmit s.txbuf) s)) := by
  rcases transmitFrame_cases s with ⟨hx, h⟩ | ⟨hx, h⟩ <;> rw [h, hx]

/-- Settles O30: the checks of `initialized` and of the type, then the encoder's on the size, then the transmit of its
frame. -/
theorem sendFollowsItsSteps : Obligations.SendFollowsItsSteps := by
  intro a b t d i s hi
  rw [exec_of_sendForm hi, sendCommand]
  rcases checkInitialized_cases (checkType a (sendWork d)) s with ⟨hinit, h⟩ | ⟨hinit, h⟩ <;> rw [h]
  · rw [if_neg (by simp [hinit])]
    rcases checkType_cases a (sendWork d) s with ⟨ty, hty, h⟩ | ⟨hty, h⟩ <;> rw [h]
    · obtain ⟨rfl, hmem⟩ := eq_typeCode_and_mem_of_typeOfByte hty
      rw [if_neg (not_not.2 hmem), sendWork]
      by_cases hd : s.cfg.frameSize - 6 < d.length
      · rw [if_pos hd, encodeFrame_eq_none_iff.2 hd]
        rfl
      · rw [if_neg hd, encodeFrame_of_le (not_lt.1 hd), ← add_one_eq_ofNat]
        exact congrArg _ (transmitFrame_eq _)
    · rw [if_pos ((typeOfByte_eq_none_iff a).1 hty)]
      rfl
  · rw [if_pos hinit]
    rfl

/-- SEND moves both counts or neither (R197). -/
theorem sendCommand_counts (a : Byte) (d : Bytes) (s : State) :
    ((sendCommand a d s).txSequence = s.txSequence ∧ (sendCommand a d s).statSent = s.statSent) ∨
    (s.xcvr.transmit = .ok ∧ (sendCommand a d s).response = some ⟨.ok, Info.empty, 0, []⟩ ∧
      (sendCommand a d s).txSequence = s.txSequence + 1 ∧ (sendCommand a d s).statSent = satAdd32 s.statSent 1) := by
  rcases sendCommand_cases a d s with
    ⟨-, h⟩ | ⟨-, -, h⟩ | ⟨_, -, -, -, h⟩ | ⟨_, _, -, -, -, -, h⟩ | ⟨_, _, -, -, -, hx, h⟩ <;> rw [h]
  · exact .inl ⟨rfl, rfl⟩
  · exact .inl ⟨rfl, rfl⟩
  · exact .inl ⟨rfl, rfl⟩
  · exact .inl ⟨rfl, rfl⟩
  · exact .inr ⟨hx, rfl, rfl, rfl⟩

/-- Settles O31: by the ends of SEND; no command but SEND and INIT writes either register. -/
theorem sequenceAndSentCountMoveTogether : Obligations.SequenceAndSentCountMoveTogether := by
  intro i s u hinit hu
  cases hs : isSend i
  case true =>
    obtain ⟨a, b, t, d, hf⟩ := exists_sendForm hs
    cases (exec_of_sendForm hf s).symm.trans hu
    rcases sendCommand_counts a d s with hsame | ⟨hx, hr, hseq, hcount⟩
    · exact .inl hsame
    · exact .inr ⟨rfl, hx, ⟨_, hr, rfl⟩, hseq ▸ toNat_add_one s.txSequence, hcount ▸ satAdd32_toNat s.statSent 1⟩
  case false =>
    obtain ⟨-, -, hsend, -⟩ := onlyTheNamedCommandsWrite i s u hu
    obtain ⟨hseq, hcount, -⟩ := hsend hinit hs
    exact .inl ⟨hseq, hcount⟩

/-! ## RECV by the transceiver's answers (R200 to R202) -/

section
variable {s : State} (hi : s.initialized = true)
include hi

theorem recvCommand_typeCode (ty : PacketType) (t : U32) :
    recvCommand (typeCode ty) t [] s = recvWork t ty s := by
  simp [recvCommand, checkLength, checkInitialized, checkType, hi]

theorem recvCommand_of_failedReceive {ty : PacketType} (ha : s.xcvr.available = true)
    (hr : s.xcvr.receive = .fail) (t : U32) :
    recvCommand (typeCode ty) t [] s =
      finishWithout ty .hardwareFailure (loseRx (call .receive (call .available s))) := by
  rw [recvCommand_typeCode hi]
  simp [recvWork, xcvrAvailable, receiveFrame, xcvrReceive, ha, hr]

/-- A channel of `FRAME_SIZE` bytes is received as it stands. -/
theorem recvCommand_of_received {ty : PacketType} {f : Bytes} (ha : s.xcvr.available = true)
    (hr : s.xcvr.receive = .ok f) (hf : f.length = s.cfg.frameSize) (t : U32) :
    recvCommand (typeCode ty) t [] s = judgeFrame ty t (receivedState f s) := by
  rw [recvCommand_typeCode hi]
  simp [recvWork, xcvrAvailable, receiveFrame, xcvrReceive, ha, hr, channel_of_length hf]

end

/-! ## RECV that accepted no frame (R201, R202, R207, R230) -/

/-- The end of a RECV that accepted no frame: the mux's substitution, or the outcome (R230). -/
theorem finishWithout_eq (ty : PacketType) (out : Status) (s : State) :
    finishWithout ty out s =
      if s.cfg.role = .aircraft ∧ ty = .command ∧ s.linkActive = false then
        { s with
          failsafeActive := true
          response := some ⟨.ok, ⟨true, false, false, !s.failsafeActive⟩, 0, s.fs⟩ }
      else { s with response := some (errorResponse out) } := by
  rcases finishWithout_cases ty out s with ⟨hm, h⟩ | ⟨hm, h⟩ <;> rw [h]
  · exact (if_pos ((muxApplies_iff ty s).1 hm)).symm
  · exact (if_neg fun hmux => by simp [(muxApplies_iff ty s).2 hmux] at hm).symm

/-- Settles O33: the poll, then the mux or `NoData`. -/
theorem recvWithNothingWaiting : Obligations.RecvWithNothingWaiting := by
  intro ty b t i s hform hi ha
  rw [exec_of_recvForm hform, recvCommand_of_nothingWaiting (typeOfByte_typeCode ty) hi ha, finishWithout_eq]
  rfl

/-- The two calls of a RECV that found data, as one list (R200). -/
theorem call_receive_call_available (s : State) :
    call .receive (call .available s) = { s with calls := s.calls ++ [.available, .receive] } := by
  simp [call]

/-- Settles O34: the content is the free value that `loseRx` draws. -/
theorem recvAfterAFailedReceive : Obligations.RecvAfterAFailedReceive := by
  intro ty b t i s hform hi ha hr
  refine ⟨(loseRx s).rxbuf, s.freeCount + 1, by simp, ?_⟩
  rw [exec_of_recvForm hform, recvCommand_of_failedReceive hi ha hr, finishWithout_eq, call_receive_call_available]
  rfl

/-- The state in which the decoder reads `RXBUF`, field by field (R200 steps 3 and 4). -/
theorem receivedState_eq (f : Bytes) (s : State) :
    receivedState f s = { s with calls := s.calls ++ [.available, .receive], rxbuf := f } := by
  rw [receivedState, call_receive_call_available]
  rfl

/-- The counter of frames rejected with a status, when one is rejected with `st` (R207). -/
def countIf (st kind : Status) (x : U32) : U32 := if st = kind then BitVec.ofNat 32 (satSum 32 x.toNat 1) else x

/-- Of the four counters the one of the rejection's own status moves (R207, R266). -/
theorem countRejection_eq (r : Rejection) (s : State) :
    countRejection r s = { s with
      statCrcFail := countIf (rejectionStatus r) .checksumFailure s.statCrcFail
      statVerMismatch := countIf (rejectionStatus r) .versionMismatch s.statVerMismatch
      statTypeMismatch := countIf (rejectionStatus r) .typeMismatch s.statTypeMismatch
      statLenError := countIf (rejectionStatus r) .lengthMismatch s.statLenError } := by
  cases r <;> rfl

theorem judgeFrame_of_firstFailing_some {ty : PacketType} {s : State} {st : Status}
    (h : firstFailing s.cfg s.rxbuf (typeCode ty) (expectedLen s.cfg ty) = some st) (t : U32) :
    ∃ r, rejectionStatus r = st ∧ judgeFrame ty t s = finishWithout ty st (countRejection r s) := by
  obtain ⟨r, hr, rfl⟩ := decodeFrame_of_firstFailing_some h
  exact ⟨r, rfl, by rw [judgeFrame, hr]⟩

/-- Settles O35: the decoder's reason is the first failing test's, its counter moves, then the mux or its status. -/
theorem recvRejectsAFaultyFrame : Obligations.RecvRejectsAFaultyFrame := by
  intro ty b t i s f st hform hi ha hr hf hfail
  obtain ⟨r, rfl, h⟩ := judgeFrame_of_firstFailing_some (s := receivedState f s) hfail t
  rw [exec_of_recvForm hform, recvCommand_of_received hi ha hr hf, h, finishWithout_eq, countRejection_eq,
    receivedState_eq]
  rfl

/-! ## RECV that accepted a frame (R160 to R168, R206) -/

/-- The gap between a sequence number and the last one accepted (R160). -/
def gapBefore (seq : Byte) (s : State) : Nat := (seq.toNat + 255 - s.rxSequenceLast.toNat) % 256

/-- The missed frames that the arrival of a sequence number reveals: none before the first frame or on a Lost link
(R161 to R164). -/
def revealedMissed (seq : Byte) (s : State) : Nat :=
  if s.rxValid = true ∧ s.linkActive = true then min (gapBefore seq s) s.cfg.lossThreshold.toNat else 0

/-- The missed frames in a row once a sequence number has arrived (R162). -/
def inARowAt (seq : Byte) (s : State) : Nat :=
  if s.rxValid = true ∧ s.linkActive = true ∧ 0 < gapBefore seq s then
    satSum 16 s.consecutiveMissed.toNat (revealedMissed seq s)
  else 0

theorem missedOf_gap (c : Config) (seq : Byte) (s : State) :
    missedOf c (gap seq s.rxSequenceLast) = min (gapBefore seq s) c.lossThreshold.toNat := by
  rw [missedOf, gap_toNat, gapBefore]

/-- A gap that is not counted reveals nothing: it is zero, or there is nothing to count it from. -/
theorem revealedMissed_eq_zero {seq : Byte} {s : State}
    (h : s.rxValid = false ∨ s.linkActive = false ∨ gapBefore seq s = 0) : revealedMissed seq s = 0 := by
  rcases h with h | h | h <;> simp [revealedMissed, h]

theorem inARowAt_eq_zero {seq : Byte} {s : State}
    (h : s.rxValid = false ∨ s.linkActive = false ∨ gapBefore seq s = 0) : inARowAt seq s = 0 := by
  rcases h with h | h | h <;> simp [inARowAt, h]

theorem ofNat_satSum_zero (x : U32) : BitVec.ofNat 32 (satSum 32 x.toNat 0) = x := by
  apply BitVec.eq_of_toNat_eq
  simp only [satSum, BitVec.toNat_ofNat]
  omega

/-- Step 1 of `OBSERVE` as one update of the state (R162). -/
theorem countGap_eq_ofNat (seq : Byte) (s : State) :
    countGap seq s = { s with
      consecutiveMissed := BitVec.ofNat 16 (inARowAt seq s)
      statMissed := BitVec.ofNat 32 (satSum 32 s.statMissed.toNat (revealedMissed seq s)) } := by
  have hgap : (gap seq s.rxSequenceLast).toNat = gapBefore seq s := gap_toNat ..
  rcases countGap_cases seq s with ⟨hv, hl, hpos, h⟩ | ⟨hnone, h⟩ <;> rw [h]
  · rw [hgap] at hpos
    have hmissed : revealedMissed seq s = missedOf s.cfg (gap seq s.rxSequenceLast) := by
      rw [missedOf_gap, revealedMissed, if_pos ⟨hv, hl⟩]
    rw [inARowAt, if_pos ⟨hv, hl, hpos⟩, hmissed]
    rfl
  · rw [hgap] at hnone
    rw [inARowAt_eq_zero hnone, revealedMissed_eq_zero hnone, ofNat_satSum_zero]
    rfl

/-- Right after a frame the threshold alone decides over the link (R168). -/
theorem linkFresh_markReceived (seq : Byte) (t : U32) (s : State) :
    linkFresh t (markReceived seq t s) = decide (s.consecutiveMissed.toNat < s.cfg.lossThreshold.toNat) := by
  rw [Bool.eq_iff_iff, linkFresh_eq_true, decide_eq_true_iff]
  simp

/-- Whether the link is Active once a sequence number has arrived (R168). -/
def aliveAt (seq : Byte) (s : State) : Bool := decide (inARowAt seq s < s.cfg.lossThreshold.toNat)

theorem toNat_ofNat_inARowAt (seq : Byte) (s : State) : (BitVec.ofNat 16 (inARowAt seq s)).toNat = inARowAt seq s := by
  have hle : inARowAt seq s ≤ 2 ^ 16 - 1 := by
    rw [inARowAt]
    split
    · exact Nat.min_le_right ..
    · exact Nat.zero_le _
  rw [BitVec.toNat_ofNat, Nat.mod_eq_of_lt (by omega)]

theorem linkFresh_observed (seq : Byte) (t : U32) (s : State) :
    linkFresh t (markReceived seq t (countGap seq s)) = aliveAt seq s := by
  rw [linkFresh_markReceived, countGap_cfg, countGap_eq_ofNat, toNat_ofNat_inARowAt, aliveAt]

/-- A transition to Active clears the count, and so changes nothing where a Lost link's count is 0 already (R167). -/
theorem evalLink_of_lost_clear {s : State} (h : s.linkActive = false → s.consecutiveMissed = 0) (t : U32) :
    evalLink t s = (evalInfo t s, { s with linkActive := linkFresh t s }) := by
  have hcount : (if !s.linkActive && linkFresh t s then 0 else s.consecutiveMissed) = s.consecutiveMissed := by
    split
    case isTrue hup => exact (h (by simpa using (Bool.and_eq_true_iff.1 hup).1)).symm
    case isFalse => rfl
  rw [evalLink, hcount]

/-- A frame that arrives on a Lost link clears the count (R164). -/
theorem consecutiveMissed_countGap_of_lost {seq : Byte} {s : State} (h : s.linkActive = false) :
    (countGap seq s).consecutiveMissed = 0 := by
  rw [countGap_eq_ofNat, inARowAt_eq_zero (.inr (.inl h))]
  rfl

/-- `OBSERVE` as its events and one update of the state (R162 to R168). -/
theorem observe_eq_ofNat (seq : Byte) (t : U32) (s : State) :
    observe seq t s = (⟨false, s.linkActive && !aliveAt seq s, !s.linkActive && aliveAt seq s, false⟩, { s with
      rxSequenceLast := seq, lastRxTime := t, rxValid := true, rxSinceTick := true
      consecutiveMissed := BitVec.ofNat 16 (inARowAt seq s)
      statMissed := BitVec.ofNat 32 (satSum 32 s.statMissed.toNat (revealedMissed seq s))
      linkActive := aliveAt seq s }) := by
  have hclear : (markReceived seq t (countGap seq s)).linkActive = false →
      (markReceived seq t (countGap seq s)).consecutiveMissed = 0 := fun hlost =>
    consecutiveMissed_countGap_of_lost ((countGap_linkActive seq s).symm.trans hlost)
  rw [observe, evalLink_of_lost_clear hclear, evalInfo, linkFresh_observed, countGap_eq_ofNat]
  rfl

theorem judgeFrame_of_firstFailing_none {ty : PacketType} {s : State}
    (h : firstFailing s.cfg s.rxbuf (typeCode ty) (expectedLen s.cfg ty) = none) (t : U32) :
    judgeFrame ty t s = acceptFrame ((s.rxbuf.drop 5).take (s.rxbuf.getD 4 0).toNat) t s := by
  have hcases := decodeFrame_firstFailing s.cfg s.rxbuf ty (expectedLen s.cfg ty)
  rw [h] at hcases
  obtain ⟨hok, -⟩ := hcases
  rw [judgeFrame, hok]

/-- Settles O36: `OBSERVE` on the state in which the frame stands in `RXBUF`, then what step 6 writes beside it. -/
theorem recvAcceptsAGoodFrame : Obligations.RecvAcceptsAGoodFrame := by
  intro ty b t i s f hform hi ha hr hf hpass
  rw [exec_of_recvForm hform, recvCommand_of_received hi ha hr hf,
    judgeFrame_of_firstFailing_none (s := receivedState f s) hpass, acceptFrame, observe_eq_ofNat, receivedState_eq]
  rfl

/-! ## RDREG (R44, R210) -/

/-- STATUS as the sum of its bits (R30). -/
theorem toNat_statusWord (s : State) :
    (statusWord s).toNat =
      s.initialized.toNat + 2 * s.linkActive.toNat + 4 * s.failsafeActive.toNat + 8 * s.rxValid.toNat +
        16 * s.rxSinceTick.toNat + (if s.cfg.role = .aircraft then 32 else 0) := by
  have hzero : (0 : BitVec 26).toNat = 0 := rfl
  have hrole : 32 * (roleBit s.cfg.role).toNat = if s.cfg.role = .aircraft then 32 else 0 := by
    cases s.cfg.role <;> rfl
  simp only [statusWord, toNat_append_eq_add, BitVec.toNat_ofBool, hzero, ← hrole]
  omega

/-- An assigned number reads the content that the table gives it. -/
theorem readReg_of_mem_registerTable {a : Byte} {v : Nat} {s : State} (h : (a, v) ∈ registerTable s) :
    readReg s a = some (BitVec.ofNat 32 v) := by
  have hall : ∀ p ∈ registerTable s, readReg s p.1 = some (BitVec.ofNat 32 p.2) := by
    simp [registerTable, readReg, ← toNat_statusWord, ← maxPayload_eq]
  exact hall _ h

/-- The numbers of `readReg`'s arms are the assigned ones. -/
theorem readReg_of_unassigned {a : Byte} {s : State} (h : a ∉ (registerTable s).map (·.1)) : readReg s a = none := by
  simp only [registerTable, List.map_cons, List.map_nil, List.mem_cons, ← BitVec.toNat_inj] at h
  unfold readReg
  split <;> simp_all

theorem exec_rdreg_read (a b : Byte) (t : U32) (s : State) : exec (.rdreg a b t []) s = .next (readWork a s) := rfl

/-- Settles O38: the table gives what `readReg` reads, and its numbers are all that it reads. -/
theorem rdregReadsTheRegisterTable : Obligations.RdregReadsTheRegisterTable := by
  refine fun a b t s => ⟨fun v hv => ?_, fun hno => ?_⟩ <;> rw [exec_rdreg_read, readWork]
  · rw [readReg_of_mem_registerTable hv]
    rfl
  · rw [readReg_of_unassigned hno]
    rfl

end Sys2Proof.Machine
end

section
/-!
PROOFS. The family 44_failsafe.md: a substitution after a substitution (R230, R231), and SETFS and GETFS in every state
(R235, R236).
-/

namespace Sys2Proof.Machine

/-! ## The mux a second time (R231) -/

/-- No call of the transceiver is in the spec's state (R20). -/
@[simp] theorem call_onlyCore (k : XcvrCall) (s : State) : (call k s).onlyCore = s.onlyCore := rfl

/-- Of the spec's state a substitution writes `failsafe_active` alone (R230). -/
theorem substitute_onlyCore (s : State) : (substitute s).onlyCore = { s.onlyCore with failsafeActive := true } := rfl

/-- Where `failsafe_active` is set already, a substitution writes nothing (R231). -/
theorem substitute_onlyCore_of_failsafeActive {s : State} (h : s.failsafeActive = true) :
    (substitute s).onlyCore = s.onlyCore := by
  have hset : s.onlyCore.failsafeActive = true := h
  rw [substitute_onlyCore, ← hset]

/-- Where `failsafe_active` is set already, the substitution reports no entry (R231). -/
theorem substitute_response_of_failsafeActive {s : State} (h : s.failsafeActive = true) :
    (substitute s).response = some ⟨.ok, ⟨true, false, false, false⟩, 0, s.fs⟩ := by
  rw [substitute_response, h, Bool.not_true]

/-- Each form of RECV of a Command that finds no data on a Lost aircraft link is answered by the mux (R201, R230). -/
theorem exec_recvForm_substitutes {b : Byte} {t : U32} {i : Instr} {s : State} (hform : recvForm 0x01 b t [] i)
    (hi : s.initialized = true) (hrole : s.cfg.role = .aircraft) (hlost : s.linkActive = false)
    (ha : s.xcvr.available = false) : exec i s = .next (substitute (call .available s)) := by
  rw [exec_of_recvForm hform, recvCommand_substitutes hi hrole hlost ha]

/-- Settles O41: the first substitution keeps what the mux reads, so the second RECV is substituted as well, on a state
whose `failsafe_active` is set. -/
theorem repeatedSubstitutionChangesNothing : Obligations.RepeatedSubstitutionChangesNothing := by
  intro b b' t t' i j s u hfirst hsecond hi hrole hlost ha hu
  cases (exec_recvForm_substitutes hfirst hi hrole hlost ha).symm.trans hu
  have hset : (call .available (substitute (call .available s))).failsafeActive = true := rfl
  exact ⟨_, exec_recvForm_substitutes hsecond hi hrole hlost ha,
    (substitute_onlyCore_of_failsafeActive hset).trans (call_onlyCore ..), substitute_response_of_failsafeActive hset⟩

/-! ## SETFS and GETFS (R235, R236, R264) -/

/-- Checks (2) and (3) of R264 in their order, before a work that needs a session. -/
theorem checkLength_checkInitialized_eq (n m : Nat) (work : State → State) (s : State) :
    checkLength (n = m) (checkInitialized work) s =
      if n ≠ m then { s with response := some (errorResponse .invalidParameter) }
      else if s.initialized = false then { s with response := some (errorResponse .notInitialized) }
      else work s := by
  rcases checkLength_cases (n = m) (checkInitialized work) s with ⟨hlen, h⟩ | ⟨hlen, h⟩ <;> rw [h]
  · rw [if_neg (not_not.2 (of_decide_eq_true hlen))]
    rcases checkInitialized_cases work s with ⟨hi, h⟩ | ⟨hi, h⟩ <;> rw [h]
    · exact (if_neg (by simp [hi])).symm
    · exact (if_pos hi).symm
  · exact (if_pos (of_decide_eq_false hlen)).symm

/-- Settles O39: the two checks, then the store of the payload. -/
theorem setfsStoresThePayload : Obligations.SetfsStoresThePayload := by
  intro a b t d s
  rw [exec_setfs, checkLength_checkInitialized_eq]
  rfl

/-- Settles O40: the two checks, then the read; each outcome writes the response alone. -/
theorem getfsReadsThePayload : Obligations.GetfsReadsThePayload := by
  intro a b t d s
  rw [exec_getfs, checkLength_checkInitialized_eq]
  simp only [ne_eq, List.length_eq_zero_iff]
  split_ifs <;> rfl

end Sys2Proof.Machine
end

section
/-!
PROOFS. The family 60_exceptions.md: how a command is answered, said once (R250, R252, R257, R274), and what follows
from it; the checks before RECV's poll (R264); and that every command gets its response (R276).
-/

namespace Sys2Proof.Machine

/-! ## What an error may have written (R274) -/

/-- The spec's states that an error on `c` may leave: `c` itself, or `c` with one buffer written, and, after a rejected
frame, the counter of its reason moved. -/
inductive Spent (c : State) : State → Prop
  /-- A check failed, or nothing was waiting (R201, R264). -/
  | nothing : Spent c c
  /-- A frame was built and its transmit failed (R196). -/
  | frameBuilt (f : Bytes) : Spent c { c with txbuf := f }
  /-- A receive failed (R202). -/
  | receiveFailed (f : Bytes) : Spent c { c with rxbuf := f }
  /-- A frame was received and rejected (R207). -/
  | frameRejected (f : Bytes) (r : Rejection) : Spent c (countRejection r { c with rxbuf := f })

theorem spent_countRejection (r : Rejection) (f : Bytes) (s : State) :
    Spent s.onlyCore (countRejection r (receivedState f s)).onlyCore := by
  have hcore : (countRejection r (receivedState f s)).onlyCore = countRejection r { s.onlyCore with rxbuf := f } := by
    cases r <;> rfl
  exact hcore ▸ .frameRejected f r

/-! ## How a command is answered -/

/-- `i` is one of the commands that need a session (R257). -/
abbrev needsInit (i : Instr) : Prop :=
  isSend i = true ∨ isRecv i = true ∨ isUpdate i = true ∨ isSetfs i = true ∨ ∃ a b t d, i = .getfs a b t d

/-- How a command is answered: with `OK`, or with an error on a state that an error may leave. -/
inductive Answered (i : Instr) (s : State) : State → Prop
  | succeeded {u : State} (r : Response) (hr : u.response = some r) (hok : r.st = .ok) : Answered i s u
  | failed {v : State} (st : Status) (hst : st ∉ [Status.ok, .timeout])
      (hinit : st = .notInitialized → s.initialized = false ∧ needsInit i) (hv : Spent s.onlyCore v.onlyCore) :
      Answered i s (respondError st v)

/-- An error that any command may answer: one that says nothing of the session. -/
theorem answered_respondError (i : Instr) {s v : State} {st : Status}
    (hst : st ∉ [Status.ok, .timeout, .notInitialized]) (hv : Spent s.onlyCore v.onlyCore) :
    Answered i s (respondError st v) := by
  simp only [List.mem_cons, List.not_mem_nil, or_false, not_or] at hst
  obtain ⟨hok, htimeout, hinit⟩ := hst
  exact .failed st (by simp [hok, htimeout]) (fun h => absurd h hinit) hv

/-- A session command before INIT changes nothing (R257). -/
theorem answered_notInitialized {i : Instr} {s : State} (hs : s.initialized = false) (hi : needsInit i) :
    Answered i s (respondError .notInitialized s) :=
  .failed _ (by decide) (fun _ => ⟨hs, hi⟩) .nothing

theorem answered_sendCommand {i : Instr} (hi : isSend i = true) (a : Byte) (d : Bytes) (s : State) :
    Answered i s (sendCommand a d s) := by
  rcases sendCommand_cases a d s with
    ⟨hs, h⟩ | ⟨-, -, h⟩ | ⟨_, -, -, -, h⟩ | ⟨_, f, -, -, -, -, h⟩ | ⟨_, _, -, -, -, -, h⟩ <;> rw [h]
  · exact answered_notInitialized hs (.inl hi)
  · exact answered_respondError i (by decide) .nothing
  · exact answered_respondError i (by decide) .nothing
  · exact answered_respondError i (by decide) (.frameBuilt f)
  · exact .succeeded _ rfl rfl

/-- A RECV that accepted no frame is answered by the mux with `OK`, or with its outcome (R230). -/
theorem answered_finishWithout (i : Instr) (ty : PacketType) {out : Status} {s v : State}
    (hout : out ∉ [Status.ok, .timeout, .notInitialized]) (hv : Spent s.onlyCore v.onlyCore) :
    Answered i s (finishWithout ty out v) := by
  rcases finishWithout_cases ty out v with ⟨-, h⟩ | ⟨-, h⟩ <;> rw [h]
  · exact .succeeded _ rfl rfl
  · exact answered_respondError i hout hv

theorem answered_recvCommand {i : Instr} (hi : isRecv i = true) (a : Byte) (t : U32) (d : Bytes) (s : State) :
    Answered i s (recvCommand a t d s) := by
  rcases recvCommand_cases a t d s with
    ⟨-, h⟩ | ⟨-, hs, h⟩ | ⟨-, -, -, h⟩ | ⟨ty, -, -, -, -, h⟩ | ⟨ty, -, -, -, -, -, h⟩ |
    ⟨ty, f, r, -, -, -, -, -, -, h⟩ | ⟨_, _, _, -, -, -, -, -, -, h⟩ <;> rw [h]
  · exact answered_respondError i (by decide) .nothing
  · exact answered_notInitialized hs (.inr (.inl hi))
  · exact answered_respondError i (by decide) .nothing
  · exact answered_finishWithout i ty (by decide) .nothing
  · exact answered_finishWithout i ty (by decide) (.receiveFailed _)
  · exact answered_finishWithout i ty (by cases r <;> decide) (spent_countRejection r f s)
  · exact .succeeded _ rfl rfl

/-- Every command is answered, with `OK` or with an error. -/
theorem exec_answered {i : Instr} {s u : State} (hu : exec i s = .next u) : Answered i s u := by
  cases hs : isSend i
  case true =>
    obtain ⟨a, b, t, d, hf⟩ := exists_sendForm hs
    cases (exec_of_sendForm hf s).symm.trans hu
    exact answered_sendCommand hs a d s
  case false =>
    cases hr : isRecv i
    case true =>
      obtain ⟨a, b, t, d, hf⟩ := exists_recvForm hr
      cases (exec_of_recvForm hf s).symm.trans hu
      exact answered_recvCommand hr a t d s
    case false =>
      rcases exec_otherCommand_cases i s hs hr with
        ⟨st, h, hst, hinit⟩ | ⟨-, _, h⟩ | ⟨-, -, _, h⟩ | ⟨-, -, _, -, h⟩ | ⟨-, -, -, _, _, h⟩ <;>
        cases h.symm.trans hu
      · exact .failed st hst (fun he => (hinit he).imp_right fun hi => .inr (.inr hi)) .nothing
      · exact .succeeded _ rfl rfl
      · exact .succeeded _ rfl rfl
      · exact .succeeded _ rfl rfl
      · exact .succeeded _ rfl rfl

/-- A response other than `OK` is that of an error, with what the error may have written behind it. -/
theorem exec_failed {i : Instr} {s u : State} {r : Response} (hu : exec i s = .next u) (hr : u.response = some r)
    (hne : r.st ≠ .ok) :
    r = errorResponse r.st ∧ r.st ≠ .timeout ∧
    (r.st = .notInitialized → s.initialized = false ∧ needsInit i) ∧ Spent s.onlyCore u.onlyCore := by
  cases exec_answered hu with
  | succeeded r' hr' hok => cases hr'.symm.trans hr; exact absurd hok hne
  | failed st hst hinit hv =>
    cases hr
    exact ⟨rfl, fun (htimeout : st = .timeout) => hst (by simp [htimeout]), hinit, hv⟩

/-! ## Errors (R252, R274) -/

/-- Settles O49: an error's response is empty, and each case of what it may have written is one of the statement's. -/
theorem errorsCarryNothingAndWriteNoSuccess : Obligations.ErrorsCarryNothingAndWriteNoSuccess := by
  intro i s u r hu hr hne
  obtain ⟨hempty, -, -, hspent⟩ := exec_failed hu hr hne
  refine ⟨hempty, ?_⟩
  generalize u.onlyCore = c at hspent ⊢
  cases hspent with
  | nothing => exact .inl rfl
  | frameBuilt f => exact .inr (.inl ⟨f, rfl⟩)
  | receiveFailed f => exact .inr (.inr (.inl ⟨f, rfl⟩))
  | frameRejected f reason =>
    refine .inr (.inr (.inr ?_))
    cases reason with
    | checksumFailure => exact .inl ⟨f, _, rfl⟩
    | versionMismatch => exact .inr (.inl ⟨f, _, rfl⟩)
    | typeMismatch => exact .inr (.inr (.inl ⟨f, _, rfl⟩))
    | lengthMismatch => exact .inr (.inr (.inr ⟨f, _, rfl⟩))

/-- The numbers of R250 end at 0x0A (R106). -/
theorem statusCode_le (st : Status) : (statusCode st).toNat ≤ 0x0A := by
  cases st <;> decide

/-- Settles O50: `OK` is not `Timeout`, and no error is. -/
theorem timeoutIsNeverAnswered : Obligations.TimeoutIsNeverAnswered := by
  intro i s u r hu hr
  refine ⟨?_, statusCode_le r.st⟩
  by_cases hok : r.st = .ok
  · simp [hok]
  · obtain ⟨-, htimeout, -⟩ := exec_failed hu hr hok
    exact htimeout

/-! ## The session's check and RECV's (R257, R264) -/

/-- A session check that fails is the whole answer, whatever the work behind it. -/
theorem checkInitialized_of_uninitialized {s : State} (hs : s.initialized = false) (work : State → State) :
    checkInitialized work s = { s with response := some (errorResponse .notInitialized) } :=
  if_neg (by simp [hs])

/-- With a legal `N` the session check is the first that can fail (R264). -/
theorem checkLength_checkInitialized_of_uninitialized {s : State} (hs : s.initialized = false) {n m : Nat} (h : n = m)
    (work : State → State) :
    checkLength (n = m) (checkInitialized work) s = { s with response := some (errorResponse .notInitialized) } := by
  rw [checkLength_checkInitialized_eq, if_neg (not_not.2 h), if_pos hs]

/-- Settles O12: before INIT the check of `initialized` is the first that fails, and no other check answers
`NotInitialized`. -/
theorem sessionCommandsNeedInit : Obligations.SessionCommandsNeedInit := by
  refine ⟨fun a b t d s i hs hi => ?_, fun i s u r hu hr hst => ?_⟩
  · rcases hi with hf | ⟨rfl, hf | rfl | rfl⟩ | ⟨hlen, rfl⟩
    · rw [exec_of_sendForm hf, sendCommand, checkInitialized_of_uninitialized hs]
    · rw [exec_of_recvForm hf, recvCommand, checkLength_checkInitialized_of_uninitialized hs List.length_nil]
    · rw [exec_update, checkLength_checkInitialized_of_uninitialized hs List.length_nil]
    · rw [exec_getfs, checkLength_checkInitialized_of_uninitialized hs List.length_nil]
    · rw [exec_setfs, checkLength_checkInitialized_of_uninitialized hs hlen]
  · obtain ⟨-, -, hinit, -⟩ := exec_failed hu hr (by simp [hst])
    exact hinit hst

/-- A type check that fails is the whole answer, whatever the work behind it (R103). -/
theorem checkType_of_notMem {a : Byte} (h : a ∉ [0x01, 0x02, 0x03, 0x04]) (work : PacketType → State → State)
    (s : State) : checkType a work s = { s with response := some (errorResponse .invalidParameter) } := by
  rw [checkType, (typeOfByte_eq_none_iff a).2 h]
  rfl

/-- Settles O32: the first check that fails answers, on the state as RECV found it. -/
theorem recvChecksBeforeItPolls : Obligations.RecvChecksBeforeItPolls := by
  intro a b t d i s hform hfail
  rw [exec_of_recvForm hform, recvCommand, checkLength_checkInitialized_eq]
  simp only [ne_eq, List.length_eq_zero_iff]
  by_cases hd : d = []
  · by_cases hs : s.initialized = false
    · simp [hd, hs]
    · have ha : a ∉ [0x01, 0x02, 0x03, 0x04] := by simpa [hd, hs] using hfail
      simp [hd, hs, checkType_of_notMem ha]
  · simp [hd]

/-! ## No hang, and no effect between commands (R270, R276, R289) -/

/-- Settles O8: the idle step is one of the kinds of step. -/
theorem nothingHappensBetweenCommands : Obligations.NothingHappensBetweenCommands := by
  intro s hp
  exact step_idle hp

/-- Every command answers a next state that holds its response; what waits goes on waiting (R276). -/
theorem exec_responds (i : Instr) (s : State) :
    ∃ u r, exec i s = .next u ∧ u.pending = s.pending ∧ u.response = some r := by
  obtain ⟨u, hu, -⟩ := exec_eq_next_cfg i s
  obtain ⟨r, hr, -⟩ := exec_reports hu
  obtain ⟨⟨-, hpending, -⟩, -⟩ := onlyTheNamedCommandsWrite i s u hu
  exact ⟨u, r, hu, hpending, hr⟩

/-- A command presented is taken and answered, be its `OP` legal or not (R90, R100). -/
theorem step_responds {s : State} {c : Command} {x : XcvrAnswers} {rest : List Event}
    (hp : s.pending = .command c x :: rest) :
    ∃ t r, step s = .next t ∧ t.pending = rest ∧ t.response = some r := by
  cases hd : decode c with
  | ok i =>
    obtain ⟨u, r, hu, hpending, hr⟩ := exec_responds i (accept x rest s)
    exact ⟨u, r, (step_decoded hp hd).trans hu, hpending.trans (accept_pending x rest s), hr⟩
  | error e => exact ⟨_, _, step_illegal hp hd, rfl, rfl⟩

/-- Settles O10: a step without a command is idle or a reset, and a command is answered. -/
theorem everyCommandGetsItsResponse : Obligations.EveryCommandGetsItsResponse := by
  refine ⟨fun s => ?_, fun s c x rest hp => step_responds hp⟩
  rcases step_cases s with ⟨-, h⟩ | ⟨rest, -, h⟩ | ⟨c, x, rest, i, hp, -, -⟩ | ⟨c, x, rest, e, -, -, h⟩
  · exact ⟨_, h⟩
  · exact ⟨_, h⟩
  · obtain ⟨t, -, h, -⟩ := step_responds hp
    exact ⟨t, h⟩
  · exact ⟨_, h⟩

end Sys2Proof.Machine
end

section
/-!
PROOFS. The family 70_reset_and_hazards.md: what hardware reset leaves (R290), that it starts a run of the invariant, and that
nothing of the old session survives it or an INIT (R293).
-/

namespace Sys2Proof.Machine

/-! ## The reset column (R290) -/

/-- The spec's state after a hardware reset is a function of the parameters alone. -/
@[simp] theorem hardwareReset_onlyCore (s : State) : (hardwareReset s).onlyCore = State.resetWith s.cfg := rfl

theorem step_hardwareReset_onlyCore {s u : State} {rest : List Event} (hp : s.pending = .hardwareReset :: rest)
    (hu : step s = .next u) : u.onlyCore = State.resetWith s.cfg := by
  rw [step_hardwareReset hp] at hu
  cases hu
  exact hardwareReset_onlyCore _

/-- Settles O9: `hardwareReset` writes the reset column of the parameters, and `State.reset` is that column for
CFG-REF. -/
theorem hardwareResetGivesTheResetValues : Obligations.HardwareResetGivesTheResetValues := by
  refine ⟨fun s rest hp => step_hardwareReset hp, fun s hp hcfg => ?_⟩
  have hstep := step_hardwareReset hp
  refine ⟨_, hstep, ?_⟩
  calc
    (hardwareReset { s with pending := [] }).onlyCore = State.resetWith s.cfg := step_hardwareReset_onlyCore hp hstep
    _ = State.reset := by rw [hcfg, State.reset]
    _ = State.reset.onlyCore := rfl

/-! ## The invariant at reset (R290) -/

theorem ref_legal (r : Role) : (Config.ref r).Legal := by
  cases r <;> decide

/-- Settles O57: the reset state of a legal configuration has the invariant, and CFG-REF is legal. -/
theorem invariantHoldsAfterReset : Obligations.InvariantHoldsAfterReset :=
  ⟨fun _ hc => resetWith_inv hc, resetWith_inv (ref_legal .aircraft)⟩

/-! ## Nothing survives INIT or hardware reset (R190, R293) -/

/-- INIT leaves the spec's state that it leaves from the reset state: a function of the parameters and `T` alone. -/
theorem initSession_onlyCore (t : U32) (s : State) :
    (initSession t s).onlyCore = initSession t (State.resetWith s.cfg) := rfl

theorem exec_init_onlyCore {a b : Byte} {t : U32} {s u : State} (hu : exec (.init a b t []) s = .next u) :
    u.onlyCore = initSession t (State.resetWith s.cfg) := by
  rw [exec_init] at hu
  cases hu
  exact initSession_onlyCore t s

/-- Settles O29: either event leaves a spec's state that no register of the old state enters. -/
theorem nothingSurvivesInitOrReset : Obligations.NothingSurvivesInitOrReset := by
  constructor
  · intro a b t s s' u u' hcfg hu hu'
    rw [exec_init_onlyCore hu, exec_init_onlyCore hu', hcfg]
  · intro rest rest' s s' u u' hcfg hp hp' hu hu'
    rw [step_hardwareReset_onlyCore hp hu, step_hardwareReset_onlyCore hp' hu', hcfg]

end Sys2Proof.Machine
end
